-- ==== Sys2Proof/Word.lean ====
section
/-! DEFINITION. The word types of the two CPUs (00_scope.md R13, R14, R22). -/

namespace Sys2Proof

/-- A memory byte or an 8-bit register (R13). -/
abbrev Byte := BitVec 8

/-- A 16-bit register, register pair, immediate or instruction word (R13, R15). -/
abbrev Word := BitVec 16

/-- A 32-bit 68000 register, address or long operand (R14). -/
abbrev Long := BitVec 32

end Sys2Proof
end

