-- ==== Sys2Proof/Syntax.lean ====
section
/-! DEFINITION. The instructions of both CPUs as syntax: one constructor of `Instr` per row of spec/opcode_table.json
(190 Z80 rows, 109 MC68000 rows), over named operand types (30_encoding.md R261, R264, R277 to R281). -/

namespace Sys2Proof

/-- The two processors (00_scope.md R2). -/
inductive Cpu | z80 | m68k
deriving DecidableEq, Repr

/-- The dispatch tables: seven Z80 maps and the one 68000 table (30_encoding.md R258, R274; 60_exceptions.md R1201). -/
inductive OpMap | primary | cb | ed | dd | fd | ddcb | fdcb | m68k
deriving DecidableEq, Repr

/-- Z80 8-bit register of the table r[], index 6 apart (R261). -/
inductive Reg8 | b | c | d | e | h | l | a
deriving DecidableEq, Repr

/-- Z80 r[z] of the CB map: a register, or index 6, the byte at (HL) (R261, R503). -/
inductive Loc8
  | reg (r : Reg8)
  | hlInd
deriving DecidableEq, Repr

/-- Z80 rp[] (R261). -/
inductive Rp | bc | de | hl | sp
deriving DecidableEq, Repr

/-- Z80 rp2[] (R261). -/
inductive Rp2 | bc | de | hl | af
deriving DecidableEq, Repr

/-- Z80 pp[] of ADD IX,pp and ADD IY,pp: index 2 is the index register itself (R428). -/
inductive Rpi | bc | de | ii | sp
deriving DecidableEq, Repr

/-- The pair of LD A,(BC), LD A,(DE), LD (BC),A and LD (DE),A (R818, R819). -/
inductive BcDe | bc | de
deriving DecidableEq, Repr

/-- Z80 index register: IX under prefix byte DD, IY under FD (R258). -/
inductive IndexReg | ix | iy
deriving DecidableEq, Repr

/-- Z80 condition of the 3-bit field ccc (10_state.md R64). -/
inductive Cond8 | nz | z | nc | c | po | pe | p | m
deriving DecidableEq, Repr

/-- The four conditions of JR cc (43_z80_control.md R701). -/
inductive JrCond | nz | z | nc | c
deriving DecidableEq, Repr

/-- 68000 operand size (45_m68k_data_arith.md R900). -/
inductive Size | b | w | l
deriving DecidableEq, Repr

/-- 68000 index register of a brief extension word: bits 15, 14:12 and 11 (30_encoding.md R278). -/
structure IndexX where
  isAddr : Bool
  reg : Fin 8
  long : Bool
deriving DecidableEq, Repr

/-- 68000 effective address with its extension words read (R277 to R280). -/
inductive Ea
  | dreg (n : Fin 8)
  | areg (n : Fin 8)
  | ind (n : Fin 8)
  | postInc (n : Fin 8)
  | preDec (n : Fin 8)
  | disp (n : Fin 8) (d : Word)
  | index (n : Fin 8) (x : IndexX) (d : Byte)
  | absW (a : Word)
  | absL (a : Long)
  | pcDisp (d : Word)
  | pcIndex (x : IndexX) (d : Byte)
  | imm (v : Long)
deriving DecidableEq, Repr

/-- 68000 condition of the 4-bit field cccc (10_state.md R73). -/
inductive Cond16 | t | f | hi | ls | cc | cs | ne | eq | vc | vs | pl | mi | ge | lt | gt | le
deriving DecidableEq, Repr

/-- 68000 branch displacement: d8 in the operation word (not 0x00), or a 16-bit word after it (47 R1102). -/
inductive BrDisp
  | short (d : Byte)
  | word (d : Word)
deriving DecidableEq, Repr

/-- 68000 register-shift count: the field ccc as it stands (0 means 8), or a data register (46 R1003). -/
inductive ShiftCount
  | imm (q : Fin 8)
  | reg (n : Fin 8)
deriving DecidableEq, Repr

/-- The field oo of MOVEP (45 R914). -/
inductive MovepMode | wToReg | lToReg | wToMem | lToMem
deriving DecidableEq, Repr

/-- The field M of ADDX, SUBX, ABCD and SBCD: Dy,Dx or -(Ay),-(Ax) (R934, R1050). -/
inductive XForm | regs | mem
deriving DecidableEq, Repr

/-- Every row of spec/opcode_table.json, with the row's mnemonic in the comment: the rows with operands in the table's
order, then the rows without (Lean's runtime allows no operands to a constructor of index 244 or more).
Quick data, shift counts and trap numbers are the fields as they stand. -/
inductive Instr
  -- map PRIMARY
  | djnz (e : Byte) -- DJNZ e (R714)
  | jr (e : Byte) -- JR e (R712)
  | jrCc (cond : JrCond) (e : Byte) -- JR cc,e (R713)
  | ldRpNn (p : Rp) (nn : Word) -- LD rp[p],nn (R822)
  | addHlRp (p : Rp) -- ADD HL,rp[p] (R425)
  | ldIndA (p : BcDe) -- LD (BC),A / LD (DE),A (R819)
  | ldMemHl (nn : Word) -- LD (nn),HL (R824)
  | ldMemA (nn : Word) -- LD (nn),A (R821)
  | ldAInd (p : BcDe) -- LD A,(BC) / LD A,(DE) (R818)
  | ldHlMem (nn : Word) -- LD HL,(nn) (R823)
  | ldAMem (nn : Word) -- LD A,(nn) (R820)
  | incRp (p : Rp) -- INC rp[p] (R429)
  | decRp (p : Rp) -- DEC rp[p] (R430)
  | incR (r : Reg8) -- INC r[y] (R418)
  | decR (r : Reg8) -- DEC r[y] (R419)
  | ldRN (r : Reg8) (n : Byte) -- LD r[y],n (R811)
  | ldHlIndN (n : Byte) -- LD (HL),n (R814)
  | ldRR (r : Reg8) (r' : Reg8) -- LD r[y],r[z] (R810)
  | ldRHlInd (r : Reg8) -- LD r[y],(HL) (R812)
  | ldHlIndR (r : Reg8) -- LD (HL),r[z] (R813)
  | addAR (r : Reg8) -- ADD A,r[z] (R410)
  | addAN (n : Byte) -- ADD A,n (R410)
  | adcAR (r : Reg8) -- ADC A,r[z] (R411)
  | adcAN (n : Byte) -- ADC A,n (R411)
  | subR (r : Reg8) -- SUB r[z] (R412)
  | subN (n : Byte) -- SUB n (R412)
  | sbcAR (r : Reg8) -- SBC A,r[z] (R413)
  | sbcAN (n : Byte) -- SBC A,n (R413)
  | andR (r : Reg8) -- AND r[z] (R414)
  | andN (n : Byte) -- AND n (R414)
  | xorR (r : Reg8) -- XOR r[z] (R415)
  | xorN (n : Byte) -- XOR n (R415)
  | orR (r : Reg8) -- OR r[z] (R416)
  | orN (n : Byte) -- OR n (R416)
  | cpR (r : Reg8) -- CP r[z] (R417)
  | cpN (n : Byte) -- CP n (R417)
  | retCc (cond : Cond8) -- RET cc[y] (R719)
  | popRp2 (p : Rp2) -- POP rp2[p] (R827)
  | jpCcNn (cond : Cond8) (nn : Word) -- JP cc[y],nn (R711)
  | jpNn (nn : Word) -- JP nn (R710)
  | outNA (n : Byte) -- OUT (n),A (R632)
  | inAN (n : Byte) -- IN A,(n) (R630)
  | callCcNn (cond : Cond8) (nn : Word) -- CALL cc[y],nn (R717)
  | pushRp2 (p : Rp2) -- PUSH rp2[p] (R826)
  | callNn (nn : Word) -- CALL nn (R716)
  | rst (y : Fin 8) -- RST y*8 (R722)
  -- map CB
  | rlcM (z : Loc8) -- RLC r[z] (R514)
  | rrcM (z : Loc8) -- RRC r[z] (R515)
  | rlM (z : Loc8) -- RL r[z] (R516)
  | rrM (z : Loc8) -- RR r[z] (R517)
  | slaM (z : Loc8) -- SLA r[z] (R518)
  | sraM (z : Loc8) -- SRA r[z] (R519)
  | sllM (z : Loc8) -- SLL r[z] (R520)
  | srlM (z : Loc8) -- SRL r[z] (R521)
  | bitM (b : Fin 8) (z : Loc8) -- BIT b,r[z] (R524)
  | resM (b : Fin 8) (z : Loc8) -- RES b,r[z] (R526)
  | setM (b : Fin 8) (z : Loc8) -- SET b,r[z] (R525)
  -- map ED
  | inRC (r : Reg8) -- IN r[y],(C) (R631)
  | outCR (r : Reg8) -- OUT (C),r[y] (R633)
  | sbcHlRp (p : Rp) -- SBC HL,rp[p] (R427)
  | adcHlRp (p : Rp) -- ADC HL,rp[p] (R426)
  | ldMemRp (p : Rp) (nn : Word) -- LD (nn),rp[p] (R824)
  | ldRpMem (p : Rp) (nn : Word) -- LD rp[p],(nn) (R823)
  -- map DD
  | addIxPp (p : Rpi) -- ADD IX,pp[p] (R428)
  | ldIxNn (nn : Word) -- LD IX,nn (R822)
  | ldMemIx (nn : Word) -- LD (nn),IX (R824)
  | ldIxMem (nn : Word) -- LD IX,(nn) (R823)
  | incIxd (d : Byte) -- INC (IX+d) (R418)
  | decIxd (d : Byte) -- DEC (IX+d) (R419)
  | ldIxdN (d : Byte) (n : Byte) -- LD (IX+d),n (R817)
  | ldRIxd (r : Reg8) (d : Byte) -- LD r[y],(IX+d) (R815)
  | ldIxdR (d : Byte) (r : Reg8) -- LD (IX+d),r[z] (R816)
  | addAIxd (d : Byte) -- ADD A,(IX+d) (R410)
  | adcAIxd (d : Byte) -- ADC A,(IX+d) (R411)
  | subIxd (d : Byte) -- SUB (IX+d) (R412)
  | sbcAIxd (d : Byte) -- SBC A,(IX+d) (R413)
  | andIxd (d : Byte) -- AND (IX+d) (R414)
  | xorIxd (d : Byte) -- XOR (IX+d) (R415)
  | orIxd (d : Byte) -- OR (IX+d) (R416)
  | cpIxd (d : Byte) -- CP (IX+d) (R417)
  -- map FD
  | addIyPp (p : Rpi) -- ADD IY,pp[p] (R428)
  | ldIyNn (nn : Word) -- LD IY,nn (R822)
  | ldMemIy (nn : Word) -- LD (nn),IY (R824)
  | ldIyMem (nn : Word) -- LD IY,(nn) (R823)
  | incIyd (d : Byte) -- INC (IY+d) (R418)
  | decIyd (d : Byte) -- DEC (IY+d) (R419)
  | ldIydN (d : Byte) (n : Byte) -- LD (IY+d),n (R817)
  | ldRIyd (r : Reg8) (d : Byte) -- LD r[y],(IY+d) (R815)
  | ldIydR (d : Byte) (r : Reg8) -- LD (IY+d),r[z] (R816)
  | addAIyd (d : Byte) -- ADD A,(IY+d) (R410)
  | adcAIyd (d : Byte) -- ADC A,(IY+d) (R411)
  | subIyd (d : Byte) -- SUB (IY+d) (R412)
  | sbcAIyd (d : Byte) -- SBC A,(IY+d) (R413)
  | andIyd (d : Byte) -- AND (IY+d) (R414)
  | xorIyd (d : Byte) -- XOR (IY+d) (R415)
  | orIyd (d : Byte) -- OR (IY+d) (R416)
  | cpIyd (d : Byte) -- CP (IY+d) (R417)
  -- map DDCB
  | rlcIxd (d : Byte) -- RLC (IX+d) (R514)
  | rrcIxd (d : Byte) -- RRC (IX+d) (R515)
  | rlIxd (d : Byte) -- RL (IX+d) (R516)
  | rrIxd (d : Byte) -- RR (IX+d) (R517)
  | slaIxd (d : Byte) -- SLA (IX+d) (R518)
  | sraIxd (d : Byte) -- SRA (IX+d) (R519)
  | sllIxd (d : Byte) -- SLL (IX+d) (R520)
  | srlIxd (d : Byte) -- SRL (IX+d) (R521)
  | bitIxd (b : Fin 8) (d : Byte) -- BIT b,(IX+d) (R524)
  | resIxd (b : Fin 8) (d : Byte) -- RES b,(IX+d) (R526)
  | setIxd (b : Fin 8) (d : Byte) -- SET b,(IX+d) (R525)
  -- map FDCB
  | rlcIyd (d : Byte) -- RLC (IY+d) (R514)
  | rrcIyd (d : Byte) -- RRC (IY+d) (R515)
  | rlIyd (d : Byte) -- RL (IY+d) (R516)
  | rrIyd (d : Byte) -- RR (IY+d) (R517)
  | slaIyd (d : Byte) -- SLA (IY+d) (R518)
  | sraIyd (d : Byte) -- SRA (IY+d) (R519)
  | sllIyd (d : Byte) -- SLL (IY+d) (R520)
  | srlIyd (d : Byte) -- SRL (IY+d) (R521)
  | bitIyd (b : Fin 8) (d : Byte) -- BIT b,(IY+d) (R524)
  | resIyd (b : Fin 8) (d : Byte) -- RES b,(IY+d) (R526)
  | setIyd (b : Fin 8) (d : Byte) -- SET b,(IY+d) (R525)
  -- map MAIN
  | oriEa (sz : Size) (imm : Long) (ea : Ea) -- ORI #imm,<ea> (R1013)
  | oriCcr (imm : Byte) -- ORI #imm,CCR (R1018)
  | oriSr (imm : Word) -- ORI #imm,SR (R1021)
  | andiEa (sz : Size) (imm : Long) (ea : Ea) -- ANDI #imm,<ea> (R1011)
  | andiCcr (imm : Byte) -- ANDI #imm,CCR (R1017)
  | andiSr (imm : Word) -- ANDI #imm,SR (R1020)
  | subiEa (sz : Size) (imm : Long) (ea : Ea) -- SUBI #imm,<ea> (R937)
  | addiEa (sz : Size) (imm : Long) (ea : Ea) -- ADDI #imm,<ea> (R932)
  | eoriEa (sz : Size) (imm : Long) (ea : Ea) -- EORI #imm,<ea> (R1015)
  | eoriCcr (imm : Byte) -- EORI #imm,CCR (R1019)
  | eoriSr (imm : Word) -- EORI #imm,SR (R1022)
  | cmpiEa (sz : Size) (imm : Long) (ea : Ea) -- CMPI #imm,<ea> (R944)
  | btstN (n : Byte) (ea : Ea) -- BTST #n,<ea> (R1040)
  | bchgN (n : Byte) (ea : Ea) -- BCHG #n,<ea> (R1041)
  | bclrN (n : Byte) (ea : Ea) -- BCLR #n,<ea> (R1042)
  | bsetN (n : Byte) (ea : Ea) -- BSET #n,<ea> (R1043)
  | btstD (n : Fin 8) (ea : Ea) -- BTST Dn,<ea> (R1040)
  | bchgD (n : Fin 8) (ea : Ea) -- BCHG Dn,<ea> (R1041)
  | bclrD (n : Fin 8) (ea : Ea) -- BCLR Dn,<ea> (R1042)
  | bsetD (n : Fin 8) (ea : Ea) -- BSET Dn,<ea> (R1043)
  | movep (o : MovepMode) (x : Fin 8) (y : Fin 8) (d : Word) -- MOVEP (R914)
  | moveB (src : Ea) (dst : Ea) -- MOVE.B <ea>,<ea> (R910)
  | moveL (src : Ea) (dst : Ea) -- MOVE.L <ea>,<ea> (R910)
  | moveW (src : Ea) (dst : Ea) -- MOVE.W <ea>,<ea> (R910)
  | moveaL (src : Ea) (n : Fin 8) -- MOVEA.L <ea>,An (R911)
  | moveaW (src : Ea) (n : Fin 8) -- MOVEA.W <ea>,An (R911)
  | negx (sz : Size) (ea : Ea) -- NEGX <ea> (R941)
  | moveFromSr (ea : Ea) -- MOVE SR,<ea> (R1142)
  | clr (sz : Size) (ea : Ea) -- CLR <ea> (R920)
  | negEa (sz : Size) (ea : Ea) -- NEG <ea> (R940)
  | moveToCcr (ea : Ea) -- MOVE <ea>,CCR (R1140)
  | notEa (sz : Size) (ea : Ea) -- NOT <ea> (R1016)
  | moveToSr (ea : Ea) -- MOVE <ea>,SR (R1141)
  | nbcd (ea : Ea) -- NBCD <ea> (R1052)
  | swap (n : Fin 8) -- SWAP Dn (R918)
  | pea (ea : Ea) -- PEA <ea> (R916)
  | ext (sz : Size) (n : Fin 8) -- EXT.W / EXT.L Dn (R919)
  | movemStore (sz : Size) (mask : Word) (ea : Ea) -- MOVEM <list>,<ea> (R913)
  | tst (sz : Size) (ea : Ea) -- TST <ea> (R921)
  | tas (ea : Ea) -- TAS <ea> (R1054)
  | movemLoad (sz : Size) (mask : Word) (ea : Ea) -- MOVEM <ea>,<list> (R913)
  | trap (v : Fin 16) -- TRAP #v (R1130)
  | link (n : Fin 8) (d : Word) -- LINK An,#d16 (R1119)
  | unlk (n : Fin 8) -- UNLK An (R1120)
  | moveAnUsp (n : Fin 8) -- MOVE An,USP (R1143)
  | moveUspAn (n : Fin 8) -- MOVE USP,An (R1143)
  | stop (imm : Word) -- STOP #imm (R1150)
  | jsr (ea : Ea) -- JSR <ea> (R1115)
  | jmp (ea : Ea) -- JMP <ea> (R1114)
  | chk (ea : Ea) (n : Fin 8) -- CHK <ea>,Dn (R1132)
  | lea (ea : Ea) (n : Fin 8) -- LEA <ea>,An (R915)
  | addq (q : Fin 8) (sz : Size) (ea : Ea) -- ADDQ #q,<ea> (R933)
  | subq (q : Fin 8) (sz : Size) (ea : Ea) -- SUBQ #q,<ea> (R938)
  | scc (cond : Cond16) (ea : Ea) -- Scc <ea> (R1053)
  | dbcc (cond : Cond16) (n : Fin 8) (d : Word) -- DBcc Dn,<label> (R1113)
  | bra (d : BrDisp) -- BRA <label> (R1110)
  | bsr (d : BrDisp) -- BSR <label> (R1111)
  | bcc (cond : Cond16) (d : BrDisp) -- Bcc <label> (R1112)
  | moveq (v : Byte) (n : Fin 8) -- MOVEQ #d8,Dn (R912)
  | orEaD (sz : Size) (ea : Ea) (n : Fin 8) -- OR <ea>,Dn (R1012)
  | orDEa (sz : Size) (n : Fin 8) (ea : Ea) -- OR Dn,<ea> (R1012)
  | divu (ea : Ea) (n : Fin 8) -- DIVU.W <ea>,Dn (R948)
  | divs (ea : Ea) (n : Fin 8) -- DIVS.W <ea>,Dn (R949)
  | sbcd (f : XForm) (y : Fin 8) (x : Fin 8) -- SBCD (R1051)
  | subEaD (sz : Size) (ea : Ea) (n : Fin 8) -- SUB <ea>,Dn (R935)
  | subDEa (sz : Size) (n : Fin 8) (ea : Ea) -- SUB Dn,<ea> (R935)
  | suba (sz : Size) (ea : Ea) (n : Fin 8) -- SUBA <ea>,An (R936)
  | subx (sz : Size) (f : XForm) (y : Fin 8) (x : Fin 8) -- SUBX (R939)
  | lineA (w : BitVec 12) -- line A (1010) emulator trap (R1134)
  | cmpEaD (sz : Size) (ea : Ea) (n : Fin 8) -- CMP <ea>,Dn (R942)
  | cmpa (sz : Size) (ea : Ea) (n : Fin 8) -- CMPA <ea>,An (R943)
  | eorDEa (sz : Size) (n : Fin 8) (ea : Ea) -- EOR Dn,<ea> (R1014)
  | cmpm (sz : Size) (y : Fin 8) (x : Fin 8) -- CMPM (Ay)+,(Ax)+ (R945)
  | andEaD (sz : Size) (ea : Ea) (n : Fin 8) -- AND <ea>,Dn (R1010)
  | andDEa (sz : Size) (n : Fin 8) (ea : Ea) -- AND Dn,<ea> (R1010)
  | mulu (ea : Ea) (n : Fin 8) -- MULU.W <ea>,Dn (R946)
  | muls (ea : Ea) (n : Fin 8) -- MULS.W <ea>,Dn (R947)
  | abcd (f : XForm) (y : Fin 8) (x : Fin 8) -- ABCD (R1050)
  | exgDD (x : Fin 8) (y : Fin 8) -- EXG Dx,Dy (R917)
  | exgAA (x : Fin 8) (y : Fin 8) -- EXG Ax,Ay (R917)
  | exgDA (x : Fin 8) (y : Fin 8) -- EXG Dx,Ay (R917)
  | addEaD (sz : Size) (ea : Ea) (n : Fin 8) -- ADD <ea>,Dn (R930)
  | addDEa (sz : Size) (n : Fin 8) (ea : Ea) -- ADD Dn,<ea> (R930)
  | adda (sz : Size) (ea : Ea) (n : Fin 8) -- ADDA <ea>,An (R931)
  | addx (sz : Size) (f : XForm) (y : Fin 8) (x : Fin 8) -- ADDX (R934)
  | asrReg (sz : Size) (k : ShiftCount) (n : Fin 8) -- ASR register (R1031)
  | aslReg (sz : Size) (k : ShiftCount) (n : Fin 8) -- ASL register (R1030)
  | lsrReg (sz : Size) (k : ShiftCount) (n : Fin 8) -- LSR register (R1033)
  | lslReg (sz : Size) (k : ShiftCount) (n : Fin 8) -- LSL register (R1032)
  | roxrReg (sz : Size) (k : ShiftCount) (n : Fin 8) -- ROXR register (R1037)
  | roxlReg (sz : Size) (k : ShiftCount) (n : Fin 8) -- ROXL register (R1036)
  | rorReg (sz : Size) (k : ShiftCount) (n : Fin 8) -- ROR register (R1035)
  | rolReg (sz : Size) (k : ShiftCount) (n : Fin 8) -- ROL register (R1034)
  | asrMem (ea : Ea) -- ASR <ea> (memory, by 1) (R1031)
  | aslMem (ea : Ea) -- ASL <ea> (memory, by 1) (R1030)
  | lsrMem (ea : Ea) -- LSR <ea> (memory, by 1) (R1033)
  | lslMem (ea : Ea) -- LSL <ea> (memory, by 1) (R1032)
  | roxrMem (ea : Ea) -- ROXR <ea> (memory, by 1) (R1037)
  | roxlMem (ea : Ea) -- ROXL <ea> (memory, by 1) (R1036)
  | rorMem (ea : Ea) -- ROR <ea> (memory, by 1) (R1035)
  | rolMem (ea : Ea) -- ROL <ea> (memory, by 1) (R1034)
  | lineF (w : BitVec 12) -- line F (1111) emulator trap (R1135)
  -- map PRIMARY, no operands
  | nopZ -- NOP (R836)
  | exAfAf -- EX AF,AF' (R829)
  | incHlInd -- INC (HL) (R418)
  | decHlInd -- DEC (HL) (R419)
  | rlca -- RLCA (R510)
  | rrca -- RRCA (R511)
  | rla -- RLA (R512)
  | rra -- RRA (R513)
  | daa -- DAA (R420)
  | cpl -- CPL (R421)
  | scf -- SCF (R423)
  | ccf -- CCF (R424)
  | halt -- HALT (R837)
  | addAHlInd -- ADD A,(HL) (R410)
  | adcAHlInd -- ADC A,(HL) (R411)
  | subHlInd -- SUB (HL) (R412)
  | sbcAHlInd -- SBC A,(HL) (R413)
  | andHlInd -- AND (HL) (R414)
  | xorHlInd -- XOR (HL) (R415)
  | orHlInd -- OR (HL) (R416)
  | cpHlInd -- CP (HL) (R417)
  | ret -- RET (R718)
  | exx -- EXX (R830)
  | jpHl -- JP (HL) (R715)
  | ldSpHl -- LD SP,HL (R825)
  | exSpHl -- EX (SP),HL (R831)
  | exDeHl -- EX DE,HL (R828)
  | di -- DI (R838)
  | ei -- EI (R839)
  -- map ED, no operands
  | neg -- NEG (R422)
  | retn -- RETN (R721)
  | reti -- RETI (R720)
  | im0 -- IM 0 (R840)
  | im1 -- IM 1 (R840)
  | im2 -- IM 2 (R840)
  | ldIA -- LD I,A (R834)
  | ldRA -- LD R,A (R835)
  | ldAI -- LD A,I (R832)
  | ldAR -- LD A,R (R833)
  | rrd -- RRD (R523)
  | rld -- RLD (R522)
  | ldi -- LDI (R610)
  | cpi -- CPI (R614)
  | ini -- INI (R618)
  | outi -- OUTI (R622)
  | ldd -- LDD (R611)
  | cpd -- CPD (R615)
  | ind -- IND (R619)
  | outd -- OUTD (R623)
  | ldir -- LDIR (R612)
  | cpir -- CPIR (R616)
  | inir -- INIR (R620)
  | otir -- OTIR (R624)
  | lddr -- LDDR (R613)
  | cpdr -- CPDR (R617)
  | indr -- INDR (R621)
  | otdr -- OTDR (R625)
  -- map DD, no operands
  | incIx -- INC IX (R429)
  | decIx -- DEC IX (R430)
  | popIx -- POP IX (R827)
  | pushIx -- PUSH IX (R826)
  | exSpIx -- EX (SP),IX (R831)
  | jpIx -- JP (IX) (R715)
  | ldSpIx -- LD SP,IX (R825)
  -- map FD, no operands
  | incIy -- INC IY (R429)
  | decIy -- DEC IY (R430)
  | popIy -- POP IY (R827)
  | pushIy -- PUSH IY (R826)
  | exSpIy -- EX (SP),IY (R831)
  | jpIy -- JP (IY) (R715)
  | ldSpIy -- LD SP,IY (R825)
  -- map MAIN, no operands
  | illegal -- ILLEGAL (R1133)
  | reset -- RESET (R1151)
  | nopM -- NOP (R1152)
  | rte -- RTE (R1118)
  | rts -- RTS (R1116)
  | trapv -- TRAPV (R1131)
  | rtr -- RTR (R1117)
deriving DecidableEq, Repr

end Sys2Proof
end

