-- ==== Sys2Proof/WellFormed.lean ====
section
/-! DEFINITION. When an instruction term is one that an encoding exists for: the effective-address categories and the
constraints of spec/opcode_table.json (30_encoding.md R253, R280 to R284). -/

namespace Sys2Proof

/-- The CPU an instruction belongs to (the `cpu` field of its row). -/
def Instr.cpu : Instr → Cpu
  | .nopZ | .exAfAf | .djnz _ | .jr _ | .jrCc _ _ | .ldRpNn _ _ | .addHlRp _ | .ldIndA _ | .ldMemHl _ | .ldMemA _ |
    .ldAInd _ | .ldHlMem _ | .ldAMem _ | .incRp _ | .decRp _ | .incR _ | .incHlInd | .decR _ | .decHlInd | .ldRN _ _
    | .ldHlIndN _ | .rlca | .rrca | .rla | .rra | .daa | .cpl | .scf | .ccf | .ldRR _ _ | .ldRHlInd _ | .ldHlIndR _
    | .halt | .addAR _ | .addAHlInd | .addAN _ | .adcAR _ | .adcAHlInd | .adcAN _ | .subR _ | .subHlInd | .subN _ |
    .sbcAR _ | .sbcAHlInd | .sbcAN _ | .andR _ | .andHlInd | .andN _ | .xorR _ | .xorHlInd | .xorN _ | .orR _ |
    .orHlInd | .orN _ | .cpR _ | .cpHlInd | .cpN _ | .retCc _ | .popRp2 _ | .ret | .exx | .jpHl | .ldSpHl |
    .jpCcNn _ _ | .jpNn _ | .outNA _ | .inAN _ | .exSpHl | .exDeHl | .di | .ei | .callCcNn _ _ | .pushRp2 _ |
    .callNn _ | .rst _ | .rlcM _ | .rrcM _ | .rlM _ | .rrM _ | .slaM _ | .sraM _ | .sllM _ | .srlM _ | .bitM _ _ |
    .resM _ _ | .setM _ _ | .inRC _ | .outCR _ | .sbcHlRp _ | .adcHlRp _ | .ldMemRp _ _ | .ldRpMem _ _ | .neg |
    .retn | .reti | .im0 | .im1 | .im2 | .ldIA | .ldRA | .ldAI | .ldAR | .rrd | .rld | .ldi | .cpi | .ini | .outi |
    .ldd | .cpd | .ind | .outd | .ldir | .cpir | .inir | .otir | .lddr | .cpdr | .indr | .otdr | .addIxPp _ |
    .ldIxNn _ | .ldMemIx _ | .ldIxMem _ | .incIx | .decIx | .incIxd _ | .decIxd _ | .ldIxdN _ _ | .ldRIxd _ _ |
    .ldIxdR _ _ | .addAIxd _ | .adcAIxd _ | .subIxd _ | .sbcAIxd _ | .andIxd _ | .xorIxd _ | .orIxd _ | .cpIxd _ |
    .popIx | .pushIx | .exSpIx | .jpIx | .ldSpIx | .addIyPp _ | .ldIyNn _ | .ldMemIy _ | .ldIyMem _ | .incIy |
    .decIy | .incIyd _ | .decIyd _ | .ldIydN _ _ | .ldRIyd _ _ | .ldIydR _ _ | .addAIyd _ | .adcAIyd _ | .subIyd _ |
    .sbcAIyd _ | .andIyd _ | .xorIyd _ | .orIyd _ | .cpIyd _ | .popIy | .pushIy | .exSpIy | .jpIy | .ldSpIy |
    .rlcIxd _ | .rrcIxd _ | .rlIxd _ | .rrIxd _ | .slaIxd _ | .sraIxd _ | .sllIxd _ | .srlIxd _ | .bitIxd _ _ |
    .resIxd _ _ | .setIxd _ _ | .rlcIyd _ | .rrcIyd _ | .rlIyd _ | .rrIyd _ | .slaIyd _ | .sraIyd _ | .sllIyd _ |
    .srlIyd _ | .bitIyd _ _ | .resIyd _ _ | .setIyd _ _ => .z80
  | .oriEa _ _ _ | .oriCcr _ | .oriSr _ | .andiEa _ _ _ | .andiCcr _ | .andiSr _ | .subiEa _ _ _ | .addiEa _ _ _ |
    .eoriEa _ _ _ | .eoriCcr _ | .eoriSr _ | .cmpiEa _ _ _ | .btstN _ _ | .bchgN _ _ | .bclrN _ _ | .bsetN _ _ |
    .btstD _ _ | .bchgD _ _ | .bclrD _ _ | .bsetD _ _ | .movep _ _ _ _ | .moveB _ _ | .moveL _ _ | .moveW _ _ |
    .moveaL _ _ | .moveaW _ _ | .negx _ _ | .moveFromSr _ | .clr _ _ | .negEa _ _ | .moveToCcr _ | .notEa _ _ |
    .moveToSr _ | .nbcd _ | .swap _ | .pea _ | .ext _ _ | .movemStore _ _ _ | .tst _ _ | .tas _ | .illegal |
    .movemLoad _ _ _ | .trap _ | .link _ _ | .unlk _ | .moveAnUsp _ | .moveUspAn _ | .reset | .nopM | .stop _ | .rte
    | .rts | .trapv | .rtr | .jsr _ | .jmp _ | .chk _ _ | .lea _ _ | .addq _ _ _ | .subq _ _ _ | .scc _ _ |
    .dbcc _ _ _ | .bra _ | .bsr _ | .bcc _ _ | .moveq _ _ | .orEaD _ _ _ | .orDEa _ _ _ | .divu _ _ | .divs _ _ |
    .sbcd _ _ _ | .subEaD _ _ _ | .subDEa _ _ _ | .suba _ _ _ | .subx _ _ _ _ | .lineA _ | .cmpEaD _ _ _ |
    .cmpa _ _ _ | .eorDEa _ _ _ | .cmpm _ _ _ | .andEaD _ _ _ | .andDEa _ _ _ | .mulu _ _ | .muls _ _ | .abcd _ _ _
    | .exgDD _ _ | .exgAA _ _ | .exgDA _ _ | .addEaD _ _ _ | .addDEa _ _ _ | .adda _ _ _ | .addx _ _ _ _ |
    .asrReg _ _ _ | .aslReg _ _ _ | .lsrReg _ _ _ | .lslReg _ _ _ | .roxrReg _ _ _ | .roxlReg _ _ _ | .rorReg _ _ _
    | .rolReg _ _ _ | .asrMem _ | .aslMem _ | .lsrMem _ | .lslMem _ | .roxrMem _ | .roxlMem _ | .rorMem _ |
    .rolMem _ | .lineF _ => .m68k

/-- The number of bytes of a size (R900). -/
def Size.bytes : Size → Nat
  | .b => 1
  | .w => 2
  | .l => 4

/-- An immediate of this size: no bit above it is set (R280). -/
def fits (sz : Size) (v : Long) : Bool := v.toNat < 2 ^ (8 * sz.bytes)

/-- An immediate effective address holds a value of the size; every other one fits any size. -/
def Ea.fits (sz : Size) : Ea → Bool
  | .imm v => Sys2Proof.fits sz v
  | _ => true

/-- Mode 001: An. -/
def Ea.isAreg : Ea → Bool
  | .areg _ => true
  | _ => false

/-- EA_DATA: every mode but An (R282). -/
def Ea.isData (e : Ea) : Bool := !e.isAreg

/-- EA_DATA_NI: EA_DATA minus #imm (R282). -/
def Ea.isDataNi : Ea → Bool
  | .areg _ | .imm _ => false
  | _ => true

/-- EA_ALT: no PC-relative mode and no immediate (R282). -/
def Ea.isAlt : Ea → Bool
  | .pcDisp _ | .pcIndex _ _ | .imm _ => false
  | _ => true

/-- EA_DALT: EA_ALT minus An (R282). -/
def Ea.isDalt (e : Ea) : Bool := e.isAlt && !e.isAreg

/-- EA_MALT: EA_ALT minus Dn and An (R282). -/
def Ea.isMalt : Ea → Bool
  | .dreg _ | .areg _ | .pcDisp _ | .pcIndex _ _ | .imm _ => false
  | _ => true

/-- EA_CTRL (R282). -/
def Ea.isCtrl : Ea → Bool
  | .ind _ | .disp _ _ | .index _ _ _ | .absW _ | .absL _ | .pcDisp _ | .pcIndex _ _ => true
  | _ => false

/-- EA_CALT plus -(An) (R282). -/
def Ea.isCaltPd : Ea → Bool
  | .ind _ | .preDec _ | .disp _ _ | .index _ _ _ | .absW _ | .absL _ => true
  | _ => false

/-- EA_CTRL plus (An)+ (R282). -/
def Ea.isCtrlPi : Ea → Bool
  | .postInc _ => true
  | e => e.isCtrl

/-- An 8-bit branch displacement is not 0x00, which announces a displacement word (47 R1102). -/
def BrDisp.wf : BrDisp → Bool
  | .short d => d != 0
  | .word _ => true

/-- The constraints of the instruction's row. -/
def Instr.wf : Instr → Bool
  | .oriEa sz imm ea | .andiEa sz imm ea | .subiEa sz imm ea | .addiEa sz imm ea | .eoriEa sz imm ea |
    .cmpiEa sz imm ea => fits sz imm && ea.isDalt
  | .btstN _ ea => ea.isDataNi
  | .bchgN _ ea | .bclrN _ ea | .bsetN _ ea | .bchgD _ ea | .bclrD _ ea | .bsetD _ ea | .negx _ ea | .moveFromSr ea
    | .clr _ ea | .negEa _ ea | .notEa _ ea | .nbcd ea | .tst _ ea | .tas ea | .scc _ ea | .eorDEa _ _ ea => ea.isDalt
  | .btstD _ ea => ea.isData && ea.fits .b
  | .moveB src dst => src.fits .b && !src.isAreg && dst.isDalt
  | .moveL src dst => src.fits .l && dst.isDalt
  | .moveW src dst => src.fits .w && dst.isDalt
  | .moveaL src _ => src.fits .l
  | .moveaW src _ => src.fits .w
  | .moveToCcr ea | .moveToSr ea | .chk ea _ | .divu ea _ | .divs ea _ | .mulu ea _ | .muls ea _ => ea.isData && ea.fits .w
  | .pea ea | .jsr ea | .jmp ea | .lea ea _ => ea.isCtrl
  | .ext sz _ => sz != .b
  | .movemStore sz _ ea => sz != .b && ea.isCaltPd
  | .movemLoad sz _ ea => sz != .b && ea.isCtrlPi
  | .addq _ sz ea | .subq _ sz ea => ea.isAlt && !(sz == .b && ea.isAreg)
  | .bra d | .bsr d => d.wf
  | .bcc cond d => cond != .t && cond != .f && d.wf
  | .orEaD sz ea _ | .andEaD sz ea _ => ea.isData && ea.fits sz
  | .orDEa _ _ ea | .subDEa _ _ ea | .andDEa _ _ ea | .addDEa _ _ ea | .asrMem ea | .aslMem ea | .lsrMem ea |
    .lslMem ea | .roxrMem ea | .roxlMem ea | .rorMem ea | .rolMem ea => ea.isMalt
  | .subEaD sz ea _ | .cmpEaD sz ea _ | .addEaD sz ea _ => ea.fits sz && !(sz == .b && ea.isAreg)
  | .suba sz ea _ | .cmpa sz ea _ | .adda sz ea _ => sz != .b && ea.fits sz
  | .nopZ | .exAfAf | .djnz _ | .jr _ | .jrCc _ _ | .ldRpNn _ _ | .addHlRp _ | .ldIndA _ | .ldMemHl _ | .ldMemA _ |
    .ldAInd _ | .ldHlMem _ | .ldAMem _ | .incRp _ | .decRp _ | .incR _ | .incHlInd | .decR _ | .decHlInd | .ldRN _ _
    | .ldHlIndN _ | .rlca | .rrca | .rla | .rra | .daa | .cpl | .scf | .ccf | .ldRR _ _ | .ldRHlInd _ | .ldHlIndR _
    | .halt | .addAR _ | .addAHlInd | .addAN _ | .adcAR _ | .adcAHlInd | .adcAN _ | .subR _ | .subHlInd | .subN _ |
    .sbcAR _ | .sbcAHlInd | .sbcAN _ | .andR _ | .andHlInd | .andN _ | .xorR _ | .xorHlInd | .xorN _ | .orR _ |
    .orHlInd | .orN _ | .cpR _ | .cpHlInd | .cpN _ | .retCc _ | .popRp2 _ | .ret | .exx | .jpHl | .ldSpHl |
    .jpCcNn _ _ | .jpNn _ | .outNA _ | .inAN _ | .exSpHl | .exDeHl | .di | .ei | .callCcNn _ _ | .pushRp2 _ |
    .callNn _ | .rst _ | .rlcM _ | .rrcM _ | .rlM _ | .rrM _ | .slaM _ | .sraM _ | .sllM _ | .srlM _ | .bitM _ _ |
    .resM _ _ | .setM _ _ | .inRC _ | .outCR _ | .sbcHlRp _ | .adcHlRp _ | .ldMemRp _ _ | .ldRpMem _ _ | .neg |
    .retn | .reti | .im0 | .im1 | .im2 | .ldIA | .ldRA | .ldAI | .ldAR | .rrd | .rld | .ldi | .cpi | .ini | .outi |
    .ldd | .cpd | .ind | .outd | .ldir | .cpir | .inir | .otir | .lddr | .cpdr | .indr | .otdr | .addIxPp _ |
    .ldIxNn _ | .ldMemIx _ | .ldIxMem _ | .incIx | .decIx | .incIxd _ | .decIxd _ | .ldIxdN _ _ | .ldRIxd _ _ |
    .ldIxdR _ _ | .addAIxd _ | .adcAIxd _ | .subIxd _ | .sbcAIxd _ | .andIxd _ | .xorIxd _ | .orIxd _ | .cpIxd _ |
    .popIx | .pushIx | .exSpIx | .jpIx | .ldSpIx | .addIyPp _ | .ldIyNn _ | .ldMemIy _ | .ldIyMem _ | .incIy |
    .decIy | .incIyd _ | .decIyd _ | .ldIydN _ _ | .ldRIyd _ _ | .ldIydR _ _ | .addAIyd _ | .adcAIyd _ | .subIyd _ |
    .sbcAIyd _ | .andIyd _ | .xorIyd _ | .orIyd _ | .cpIyd _ | .popIy | .pushIy | .exSpIy | .jpIy | .ldSpIy |
    .rlcIxd _ | .rrcIxd _ | .rlIxd _ | .rrIxd _ | .slaIxd _ | .sraIxd _ | .sllIxd _ | .srlIxd _ | .bitIxd _ _ |
    .resIxd _ _ | .setIxd _ _ | .rlcIyd _ | .rrcIyd _ | .rlIyd _ | .rrIyd _ | .slaIyd _ | .sraIyd _ | .sllIyd _ |
    .srlIyd _ | .bitIyd _ _ | .resIyd _ _ | .setIyd _ _ | .oriCcr _ | .oriSr _ | .andiCcr _ | .andiSr _ | .eoriCcr _
    | .eoriSr _ | .movep _ _ _ _ | .swap _ | .illegal | .trap _ | .link _ _ | .unlk _ | .moveAnUsp _ | .moveUspAn _
    | .reset | .nopM | .stop _ | .rte | .rts | .trapv | .rtr | .dbcc _ _ _ | .moveq _ _ | .sbcd _ _ _ |
    .subx _ _ _ _ | .lineA _ | .cmpm _ _ _ | .abcd _ _ _ | .exgDD _ _ | .exgAA _ _ | .exgDA _ _ | .addx _ _ _ _ |
    .asrReg _ _ _ | .aslReg _ _ _ | .lsrReg _ _ _ | .lslReg _ _ _ | .roxrReg _ _ _ | .roxlReg _ _ _ | .rorReg _ _ _
    | .rolReg _ _ _ | .lineF _ => true

end Sys2Proof
end

