-- ==== Sys2Proof/Machine/Bits.lean ====
section
/-! DEFINITION. Bit fields, sign extension and byte order (00_scope.md R21 to R23; 10_state.md R52; 45 R900). -/

namespace Sys2Proof.Machine

/-- The high byte of a pair (R52). -/
def hiByte (w : Word) : Byte := w.extractLsb' 8 8

/-- The low byte of a pair (R52). -/
def loByte (w : Word) : Byte := w.extractLsb' 0 8

/-- A pair from its halves (R52). -/
def pairOf (hi lo : Byte) : Word := hi ++ lo

/-- A pair with a new high half (R52). -/
def withHi (w : Word) (v : Byte) : Word := pairOf v (loByte w)

/-- A pair with a new low half (R52). -/
def withLo (w : Word) (v : Byte) : Word := pairOf (hiByte w) v

/-- `sext_8` to 16 bits (R22). -/
def sext8 (v : Byte) : Word := v.signExtend 16

/-- 1 when the byte has an even number of 1 bits (R23). -/
def parity (v : Byte) : Bool :=
  !(v.getLsbD 0 ^^ v.getLsbD 1 ^^ v.getLsbD 2 ^^ v.getLsbD 3 ^^ v.getLsbD 4 ^^ v.getLsbD 5 ^^ v.getLsbD 6 ^^ v.getLsbD 7)

/-- The byte whose only possible 1 bit is bit k. -/
def bit8 (k : Nat) (b : Bool) : Byte := BitVec.ofNat 8 (b.toNat <<< k)

/-- The word whose only possible 1 bit is bit k. -/
def bit16 (k : Nat) (b : Bool) : Word := BitVec.ofNat 16 (b.toNat <<< k)

/-- A word with bit k written. -/
def withBit16 (w : Word) (k : Nat) (b : Bool) : Word := (w &&& ~~~ (bit16 k true)) ||| bit16 k b

/-- The number of bits of a size (45 R900). -/
def bits (sz : Size) : Nat := 8 * sz.bytes

/-- `msk(sz)` (45 R900). -/
def sizeMask (sz : Size) : Long :=
  match sz with
  | .b => 0xFF
  | .w => 0xFFFF
  | .l => 0xFFFFFFFF

/-- A value cut to a size. -/
def cut (sz : Size) (v : Long) : Long := v &&& sizeMask sz

/-- The sign bit at a size, `v[8*size-1]`. -/
def signBit (sz : Size) (v : Long) : Bool :=
  match sz with
  | .b => v.getLsbD 7
  | .w => v.getLsbD 15
  | .l => v.getLsbD 31

/-- `sext` from a size to 32 bits (R22). -/
def sextL (sz : Size) (v : Long) : Long :=
  match sz with
  | .b => (v.extractLsb' 0 8).signExtend 32
  | .w => (v.extractLsb' 0 16).signExtend 32
  | .l => v

/-- A register with its low part of a size replaced (10_state.md R66). -/
def insertLow (sz : Size) (old v : Long) : Long := (old &&& ~~~ (sizeMask sz)) ||| cut sz v

end Sys2Proof.Machine
end

