-- ==== Sys2Proof/Config.lean ====
section
/-! DEFINITION. What the spec leaves to an implementation or leaves open: the free values. Each is an opaque constant
applied to `State.draws` (a counter that every use advances), so that no proof can see a value of it. -/

namespace Sys2Proof

/-- FREE VALUE (log 4): a flag that the spec leaves "any value" (92_eei_decisions.md D30; 93 I1, I2, I3, I5). -/
opaque Config.freeBit : Nat → Bool

/-- FREE VALUE (log 5): what the oracle `z80IoRead(port)` answers where the state lists no answer for the port
(20_memory.md R159, D9, I18). -/
opaque Config.z80IoRead : Word → Nat → Byte

/-- FREE VALUE (log 21): a register, a flag or a byte of memory that a fatal condition leaves unspecified, by the draw and an
index that tells the items of one draw apart (60_exceptions.md R1202, D29). -/
opaque Config.freeLong : Nat → Nat → Long

/-- FREE VALUE (log 6): one less than the parameter `m68kCycles` (70 R1312, D31, I21). -/
opaque Config.m68kCyclesPred : Nat → Nat

/-- FREE VALUE (log 6): one less than the parameter `M68K_IDLE_CYCLES` (70 R1312, D27, I22). -/
opaque Config.m68kIdleCyclesPred : Nat

/-- The parameter `m68kCycles`: a positive integer (00_scope.md R17). -/
def Config.m68kCycles (draw : Nat) : Nat := Config.m68kCyclesPred draw + 1

/-- The parameter `M68K_IDLE_CYCLES`: a positive integer (00_scope.md R17). -/
def Config.m68kIdleCycles : Nat := Config.m68kIdleCyclesPred + 1

/-- The default of the parameter `PAD_PORTS` (00_scope.md R17, D8). -/
def Config.padPortsDefault : List Nat :=
  [0xA10002, 0xA10003, 0xA10004, 0xA10005, 0xA10006, 0xA10007]

end Sys2Proof
end

