-- ==== Sys2Proof/Machine/State.lean ====
section
/-! DEFINITION. Every piece of state the spec gives the block, as plain data (10_state.md R50 to R79, 00_scope.md R10, R12,
R17), with the model's own fields (INVENTORY.md, State), the reasons a step can stop, and the state after reset. -/

namespace Sys2Proof.Machine

/-! ### Why a step stops (60_exceptions.md R1200 to R1204) -/

/-- The kind of an `InvalidParameter` (R1201). -/
inductive VectorKind | autovector | trap
deriving DecidableEq, Repr

/-- The fatal conditions of R1201: the spec's own. `exec` answers one as its outcome; the step that met it goes on with the CPU
`faulted` and the condition in `State.fatal` (R1202; log 7). -/
inductive Fault
  /-- Raised by the fetch of an opcode with no installed handler (30_encoding.md R254, R258, R285). Safe. -/
  | unknownOpcode (map : OpMap) (opcode : Nat)
  /-- Raised by the vector resolver: an autovector level outside 1 to 7, a trap id outside 1 to 15 (R1250). Safe. -/
  | invalidParameter (kind : VectorKind) (value : Nat)
  /-- Raised by the 68000 reset when the host supplies no image (R1203). Safe. -/
  | noImage
  /-- Raised by a 68000 word or long access or fetch at an odd address, with the bus address (20_memory.md R163). Safe. -/
  | misalignedAccess (addr : BitVec 24)
  /-- Raised by the Z80 accepting an interrupt in mode 0 with a byte that is no RST opcode (R1272). Safe. -/
  | im0DataNotRst (byte : Byte)
deriving DecidableEq, Repr

/-- Reasons for which the model has no meaning. -/
inductive Refusal
  /-- Raised by an arm of `exec` for an instruction that has no meaning yet. Safe: nothing can be proved of it. -/
  | notModelled (mnemonic : String)
deriving DecidableEq, Repr

/-! ### Memory (10_state.md R76, 20_memory.md R150 to R158) -/

/-- Bytes by address: addresses strictly rising, no byte 0x00 listed; an unlisted address reads 0x00 (log 3). -/
abbrev Memory := List Host.Cell

/-- The read-only cartridge image (00_scope.md R20): `len` is `romLen`; an unlisted byte below it is 0x00. -/
structure Image where
  len : Nat
  cells : Memory
deriving DecidableEq, Repr

/-- What the one memory bus owns or refers to (R150), with the parameters `rom` and `PAD_PORTS` (R17; log 2). -/
structure Bus where
  /-- The cartridge image, or none (R1203). -/
  rom : Option Image
  /-- The controller-data port addresses (R153). -/
  pads : List Nat
  /-- Z80 work RAM, 0x2000 bytes (R16). -/
  zram : Memory
  /-- 68000 work RAM, 0x10000 bytes (R16). -/
  wram : Memory
deriving DecidableEq, Repr

/-! ### The Z80 (CPU8) -/

/-- The Z80 interrupt mode (10_state.md R61). -/
inductive IntMode | im0 | im1 | im2
deriving DecidableEq, Repr

/-- The Z80 register file and its hidden state (R55 to R63). A pair is one cell (R52). -/
structure Z80 where
  af : Word
  bc : Word
  de : Word
  hl : Word
  afAlt : Word
  bcAlt : Word
  deAlt : Word
  hlAlt : Word
  ix : Word
  iy : Word
  sp : Word
  pc : Word
  wz : Word
  i : Byte
  r : Byte
  iff1 : Bool
  iff2 : Bool
  im : IntMode
  halted : Bool
  eiDelay : Bool
  nmiPending : Bool
  faulted : Option Fault
deriving DecidableEq, Repr

/-! ### The 68000 (CPU16) -/

/-- The 68000 register file and its hidden state (R66 to R74). `a[7]` is the active stack pointer and `otherSP` the stored
one (R68). `pc0` is the address of the operation word of the instruction being executed (47 R1100; log 11). -/
structure M68k where
  d : Vector Long 8
  a : Vector Long 8
  otherSP : Long
  pc : Long
  pc0 : Long
  sr : Word
  stopped : Bool
  nmi7Pending : Bool
  faulted : Option Fault
deriving DecidableEq, Repr

/-! ### The host's side of the block (00_scope.md R10, R12) -/

/-- An output event (R12). -/
inductive Event
  | intAck68k (level : Nat)
  | intAckZ80
  | ioWrite (port : Word) (value : Byte)
  | resetOut
deriving DecidableEq, Repr

/-- One thing the host does to an input between steps (R12; 60 R1261, R1271, R1272). -/
inductive Drive
  | ipl (level : Fin 8)
  | z80Int (level : Bool)
  | z80Nmi
  | z80IntData (value : Byte)
  | portIn (port : Word) (value : Byte)
deriving DecidableEq, Repr

/-- One call the host makes (R10). -/
inductive Call
  | reset (cpu : Cpu)
  | execute (cpu : Cpu)
deriving DecidableEq, Repr

/-- One turn of the host: what it does to the inputs, then its call. -/
structure HostTurn where
  drives : List Drive
  call : Call
deriving DecidableEq, Repr

/-- The inputs as the host holds them, and the host's choices as plain data (log 1). -/
structure HostSide where
  /-- The input `m68kIpl`. -/
  ipl : Fin 8
  /-- The input `z80Int`. -/
  z80Int : Bool
  /-- The input `z80IntData`. -/
  z80IntData : Byte
  /-- Answers of the oracle `z80IoRead`, by port; an unlisted port answers a free value (log 5). -/
  ports : List Host.Cell
  /-- The MODEL's own: the CPU whose step the host calls when `script` is empty. -/
  turn : Cpu
  /-- The MODEL's own: the host's coming turns, the next one first. -/
  script : List HostTurn
deriving DecidableEq, Repr

/-- The whole block: both CPUs, the bus, the host's side, what was output and returned, and the counter of the free values. -/
structure State where
  z : Z80
  m : M68k
  bus : Bus
  host : HostSide
  /-- The output events so far, the oldest first (R12). -/
  events : List Event
  /-- The cycle count the last step returned (R10, 70 R1310). -/
  cycles : Nat
  /-- The fatal condition the last call returned instead of a cycle count, if it returned one (60_exceptions.md R1200, R1202). -/
  fatal : Option Fault
  /-- The MODEL's own: how many free values have been drawn (Config; logs 4, 5, 6, 21). -/
  draws : Nat
deriving DecidableEq, Repr

/-! ### Reset -/

/-- The Z80 after its `reset()` (10_state.md R78). -/
def Z80.afterReset : Z80 where
  af := 0
  bc := 0
  de := 0
  hl := 0
  afAlt := 0
  bcAlt := 0
  deAlt := 0
  hlAlt := 0
  ix := 0
  iy := 0
  sp := 0
  pc := 0
  wz := 0
  i := 0
  r := 0
  iff1 := false
  iff2 := false
  im := .im0
  halted := false
  eiDelay := false
  nmiPending := false
  faulted := none

/-- The 68000 after its `reset()` with the two longs it reads from the vector table (R79; 70 R1301). `pc0` is DESIGN CHOICE
0 (log 11). -/
def M68k.afterReset (ssp pc : Long) : M68k where
  d := Vector.replicate 8 0
  a := (Vector.replicate 8 0).set 7 ssp
  otherSP := 0
  pc := pc
  pc0 := 0
  sr := 0x2700
  stopped := false
  nmi7Pending := false
  faulted := none

/-- Both CPUs right after their `reset()` (R78, R79), over an image of length 0 (DESIGN CHOICE, log 2), whose vectors read 0
(20_memory.md R153). The host's side is DESIGN CHOICE (logs 1, 10, 11) but `z80IntData` and `PAD_PORTS`, which have the
spec's defaults (R17). -/
def State.reset : State where
  z := Z80.afterReset
  m := M68k.afterReset 0 0
  bus := { rom := some ⟨0, []⟩, pads := Config.padPortsDefault, zram := [], wram := [] }
  host := { ipl := 0, z80Int := false, z80IntData := 0xFF, ports := [], turn := .m68k, script := [] }
  events := []
  cycles := 0
  fatal := none
  draws := 0

end Sys2Proof.Machine
end

