-- ==== Sys2Proof/Machine/Flags.lean ====
section
/-! DEFINITION. Every flag computation and the arithmetic that goes with it: the Z80 primitives (40 R400 to R407, 41 R500 to
R502, 42 R603 to R606), the 68000 primitives (45 R905 to R909, 46 R1002, R1004, R1005), and the conditions (10_state.md
R64, R73). -/

namespace Sys2Proof.Machine

/-! ### Z80: the byte F (10_state.md R60) -/

/-- F from its eight flags. -/
def flagsZ (s z y h x pv n c : Bool) : Byte :=
  bit8 7 s ||| bit8 6 z ||| bit8 5 y ||| bit8 4 h ||| bit8 3 x ||| bit8 2 pv ||| bit8 1 n ||| bit8 0 c

/-- Flag S of a byte F. -/
def fS (f : Byte) : Bool := f.getLsbD 7

/-- Flag Z. -/
def fZ (f : Byte) : Bool := f.getLsbD 6

/-- Flag H. -/
def fH (f : Byte) : Bool := f.getLsbD 4

/-- Flag P/V. -/
def fPV (f : Byte) : Bool := f.getLsbD 2

/-- Flag N. -/
def fN (f : Byte) : Bool := f.getLsbD 1

/-- Flag C. -/
def fC (f : Byte) : Bool := f.getLsbD 0

/-- F with S, Z, Y, X of a result, `szxy(r)` (R400), and the other flags given. -/
def flagsR (r : Byte) (h pv n c : Bool) : Byte :=
  flagsZ (r.getLsbD 7) (r == 0) (r.getLsbD 5) h (r.getLsbD 3) pv n c

/-- F with S, Z and P/V kept and Y, X of a byte: the accumulator rotates, SCF, CCF (R423, R424, R501). -/
def flagsKeep (f r : Byte) (h n c : Bool) : Byte :=
  flagsZ (fS f) (fZ f) (r.getLsbD 5) h (r.getLsbD 3) (fPV f) n c

/-! ### Z80 arithmetic: a result with its F -/

/-- `add8(a, b, cin)` (R401). -/
def add8 (a b : Byte) (cin : Bool) : Byte × Byte :=
  let t := a.toNat + b.toNat + cin.toNat
  let r := BitVec.ofNat 8 t
  (r, flagsR r ((a ^^^ b ^^^ r).getLsbD 4) ((~~~ (a ^^^ b) &&& (a ^^^ r)).getLsbD 7) false (decide (t > 0xFF)))

/-- `sub8(a, b, cin)` (R402). -/
def sub8 (a b : Byte) (cin : Bool) : Byte × Byte :=
  let r := a - b - BitVec.ofNat 8 cin.toNat
  (r, flagsR r ((a ^^^ b ^^^ r).getLsbD 4) (((a ^^^ b) &&& (a ^^^ r)).getLsbD 7) true
    (decide (a.toNat < b.toNat + cin.toNat)))

/-- F of a compare: `sub8` with Y and X of the operand (R417). -/
def cp8 (a b : Byte) : Byte :=
  let f := (sub8 a b false).2
  flagsZ (fS f) (fZ f) (b.getLsbD 5) (fH f) (b.getLsbD 3) (fPV f) true (fC f)

/-- F of a logical result, H as the operation says (R404). -/
def logicF (r : Byte) (h : Bool) : Byte := flagsR r h (parity r) false false

/-- `logic8(AND, a, b)` (R404). -/
def and8 (a b : Byte) : Byte × Byte := (a &&& b, logicF (a &&& b) true)

/-- `logic8(OR, a, b)` (R404). -/
def or8 (a b : Byte) : Byte × Byte := (a ||| b, logicF (a ||| b) false)

/-- `logic8(XOR, a, b)` (R404). -/
def xor8 (a b : Byte) : Byte × Byte := (a ^^^ b, logicF (a ^^^ b) false)

/-- `inc8(a)`, C of the old F kept (R405). -/
def inc8 (a f : Byte) : Byte × Byte :=
  (a + 1, flagsR (a + 1) (a &&& 0xF == 0xF) (a == 0x7F) false (fC f))

/-- `dec8(a)`, C of the old F kept (R405). -/
def dec8 (a f : Byte) : Byte × Byte :=
  (a - 1, flagsR (a - 1) (a &&& 0xF == 0) (a == 0x80) true (fC f))

/-- `add16(a, b, 0, false)`: S, Z and P/V kept (R406). -/
def add16 (a b : Word) (f : Byte) : Word × Byte :=
  let t := a.toNat + b.toNat
  let r := BitVec.ofNat 16 t
  (r, flagsZ (fS f) (fZ f) (r.getLsbD 13) ((a ^^^ b ^^^ r).getLsbD 12) (r.getLsbD 11) (fPV f) false (decide (t > 0xFFFF)))

/-- `add16(a, b, cin, true)` (R406). -/
def adc16 (a b : Word) (cin : Bool) : Word × Byte :=
  let t := a.toNat + b.toNat + cin.toNat
  let r := BitVec.ofNat 16 t
  (r, flagsZ (r.getLsbD 15) (r == 0) (r.getLsbD 13) ((a ^^^ b ^^^ r).getLsbD 12) (r.getLsbD 11)
    ((~~~ (a ^^^ b) &&& (a ^^^ r)).getLsbD 15) false (decide (t > 0xFFFF)))

/-- `sub16(a, b, cin)` (R407). -/
def sbc16 (a b : Word) (cin : Bool) : Word × Byte :=
  let r := a - b - BitVec.ofNat 16 cin.toNat
  (r, flagsZ (r.getLsbD 15) (r == 0) (r.getLsbD 13) ((a ^^^ b ^^^ r).getLsbD 12) (r.getLsbD 11)
    (((a ^^^ b) &&& (a ^^^ r)).getLsbD 15) true (decide (a.toNat < b.toNat + cin.toNat)))

/-- DAA: A and F from A and F (R420). -/
def daa8 (a f : Byte) : Byte × Byte :=
  let low : Byte := if fH f || decide ((a &&& 0xF).toNat > 9) then 0x06 else 0
  let high := fC f || decide (a.toNat > 0x99)
  let corr : Byte := low ||| (if high then 0x60 else 0)
  let r := if fN f then a - corr else a + corr
  (r, flagsR r ((a ^^^ r).getLsbD 4) (parity r) (fN f) high)

/-- The eight variants of `shift8` (R500). -/
inductive Shift8 | rlc | rrc | rl | rr | sla | sra | sll | srl
deriving DecidableEq, Repr

/-- `shift8(variant, v, cin)`: the result and the bit shifted out (R500). -/
def shift8 (k : Shift8) (v : Byte) (cin : Bool) : Byte × Bool :=
  let left (shiftIn : Bool) := ((v <<< 1) ||| bit8 0 shiftIn, v.getLsbD 7)
  let right (shiftIn : Bool) := ((v >>> 1) ||| bit8 7 shiftIn, v.getLsbD 0)
  match k with
  | .rlc => left (v.getLsbD 7)
  | .rl => left cin
  | .sla => left false
  | .sll => left true
  | .rrc => right (v.getLsbD 0)
  | .rr => right cin
  | .sra => right (v.getLsbD 7)
  | .srl => right false

/-- F of a general rotate or shift (R502). -/
def shiftF (r : Byte) (cout : Bool) : Byte := flagsR r false (parity r) false cout

/-- F of BIT: the tested bit, the bit number, and the byte whose bits 5 and 3 give Y and X (41 R524). -/
def bitF (t : Bool) (b : Fin 8) (yx f : Byte) : Byte :=
  flagsZ (b.val == 7 && t) (!t) (yx.getLsbD 5) true (yx.getLsbD 3) (!t) false (fC f)

/-- F of a byte that is read in: `szxy`, H = N = 0, a given P/V, C kept (R522, R631, R832). -/
def flagsIn (r : Byte) (pv : Bool) (f : Byte) : Byte := flagsR r false pv false (fC f)

/-- F of `ldStep`: A, the byte moved, whether BC is not 0 after the decrement (42 R603). -/
def ldBlockF (a v : Byte) (more : Bool) (f : Byte) : Byte :=
  flagsZ (fS f) (fZ f) ((v + a).getLsbD 1) false ((v + a).getLsbD 3) more false (fC f)

/-- F of `cpStep` (42 R604). -/
def cpBlockF (a v : Byte) (more : Bool) (f : Byte) : Byte :=
  let r := a - v
  let h := (a ^^^ v ^^^ r).getLsbD 4
  let n := r - bit8 0 h
  flagsZ (r.getLsbD 7) (r == 0) (n.getLsbD 1) h (n.getLsbD 3) more true (fC f)

/-- F of `inStep` and `outStep`: B after its decrement, the byte moved, and the sum k (42 R605, R606). -/
def ioBlockF (b v : Byte) (k : Nat) : Byte :=
  flagsR b (decide (k > 255)) (parity (BitVec.ofNat 8 (k % 8) ^^^ b)) (v.getLsbD 7) (decide (k > 255))

/-- The Z80 condition codes, on F (10_state.md R64). -/
def cond8 (k : Cond8) (f : Byte) : Bool :=
  match k with
  | .nz => !fZ f
  | .z => fZ f
  | .nc => !fC f
  | .c => fC f
  | .po => !fPV f
  | .pe => fPV f
  | .p => !fS f
  | .m => fS f

/-- The four conditions of JR cc (43 R701). -/
def jrCond (k : JrCond) (f : Byte) : Bool :=
  match k with
  | .nz => !fZ f
  | .z => fZ f
  | .nc => !fC f
  | .c => fC f

/-! ### 68000: SR bits 4:0 (10_state.md R72) -/

/-- Flag X of SR. -/
def srX (sr : Word) : Bool := sr.getLsbD 4

/-- Flag N of SR. -/
def srN (sr : Word) : Bool := sr.getLsbD 3

/-- Flag Z of SR. -/
def srZ (sr : Word) : Bool := sr.getLsbD 2

/-- Flag V of SR. -/
def srV (sr : Word) : Bool := sr.getLsbD 1

/-- Flag C of SR. -/
def srC (sr : Word) : Bool := sr.getLsbD 0

/-- SR with N, Z, V, C written. -/
def withNzvc (sr : Word) (n z v c : Bool) : Word :=
  (sr &&& 0xFFF0) ||| bit16 3 n ||| bit16 2 z ||| bit16 1 v ||| bit16 0 c

/-- SR with X, N, Z, V, C written. -/
def withXnzvc (sr : Word) (x n z v c : Bool) : Word :=
  (sr &&& 0xFFE0) ||| bit16 4 x ||| bit16 3 n ||| bit16 2 z ||| bit16 1 v ||| bit16 0 c

/-- SR with Z written (46 R1004). -/
def withZ (sr : Word) (z : Bool) : Word := withBit16 sr 2 z

/-- `moveflags(r, sz)` (45 R909). -/
def moveFlags (sr : Word) (sz : Size) (r : Long) : Word := withNzvc sr (signBit sz r) (cut sz r == 0) false false

/-- A result with the flags an arithmetic primitive computes; X is C. -/
structure Alu where
  r : Long
  c : Bool
  v : Bool
  n : Bool
  z : Bool
deriving DecidableEq, Repr

/-- `addf(s, d, x, sz)` (45 R905). -/
def addf (s d : Long) (x : Bool) (sz : Size) : Alu :=
  let s := cut sz s
  let d := cut sz d
  let t := d.toNat + s.toNat + x.toNat
  let r := cut sz (BitVec.ofNat 32 t)
  { r := r, c := decide (t > (sizeMask sz).toNat), v := signBit sz (~~~ (s ^^^ d) &&& (d ^^^ r)), n := signBit sz r, z := r == 0 }

/-- `subf(s, d, x, sz)`, d - s - x (45 R906). -/
def subf (s d : Long) (x : Bool) (sz : Size) : Alu :=
  let s := cut sz s
  let d := cut sz d
  let r := cut sz (d - s - BitVec.ofNat 32 x.toNat)
  { r := r, c := decide (s.toNat + x.toNat > d.toNat), v := signBit sz ((s ^^^ d) &&& (d ^^^ r)), n := signBit sz r,
    z := r == 0 }

/-- SR after ADD, SUB and their like: X, N, Z, V, C (R905, R906). -/
def aluFlags (sr : Word) (a : Alu) : Word := withXnzvc sr a.c a.n a.z a.v a.c

/-- SR after an extended form: Z is cleared or kept (45 R908). -/
def aluFlagsX (sr : Word) (a : Alu) : Word := withXnzvc sr a.c a.n (a.z && srZ sr) a.v a.c

/-- SR after a compare: X kept (45 R907). -/
def cmpFlags (sr : Word) (a : Alu) : Word := withNzvc sr a.n a.z a.v a.c

/-- The kinds of `shiftp` (46 R1002). -/
inductive ShiftKind | as | ls | rox | ro
deriving DecidableEq, Repr

/-- The directions of `shiftp`. -/
inductive ShiftDir | left | right
deriving DecidableEq, Repr

/-- What the loop of `shiftp` carries: the value and the flags X, C, V. -/
structure Shifting where
  val : Long
  x : Bool
  c : Bool
  v : Bool
deriving DecidableEq, Repr

/-- One single-bit step of `shiftp` (46 R1002). -/
def shiftStep (kind : ShiftKind) (dir : ShiftDir) (sz : Size) (st : Shifting) : Shifting :=
  let out := match dir with
    | .left => signBit sz st.val
    | .right => st.val.getLsbD 0
  let val := match dir with
    | .left =>
      let shiftIn := match kind with
        | .as | .ls => false
        | .ro => out
        | .rox => st.x
      cut sz ((st.val <<< 1) ||| BitVec.ofNat 32 shiftIn.toNat)
    | .right =>
      let shiftIn := match kind with
        | .as => signBit sz st.val
        | .ls => false
        | .ro => out
        | .rox => st.x
      (st.val >>> 1) ||| BitVec.ofNat 32 (shiftIn.toNat <<< (bits sz - 1))
  { val := val
    x := if kind = .ro then st.x else out
    c := out
    v := st.v || (kind == .as && dir == .left && (signBit sz val != signBit sz st.val)) }

/-- `cnt` steps. -/
def shiftLoop (kind : ShiftKind) (dir : ShiftDir) (sz : Size) (cnt : Nat) (st : Shifting) : Shifting :=
  match cnt with
  | 0 => st
  | k + 1 => shiftLoop kind dir sz k (shiftStep kind dir sz st)

/-- `shiftp(kind, dir, v, cnt, sz)`: the result and SR (46 R1002). -/
def shiftp (kind : ShiftKind) (dir : ShiftDir) (v : Long) (cnt : Nat) (sz : Size) (sr : Word) : Long × Word :=
  let x := srX sr
  let e := shiftLoop kind dir sz cnt { val := cut sz v, x := x, c := kind == .rox && x, v := false }
  (e.val, withXnzvc sr e.x (signBit sz e.val) (e.val == 0) e.v e.c)

/-- `abcd(s, d, x)` (46 R1005). -/
def abcd8 (s d : Byte) (x : Bool) : Byte × Bool :=
  let r : Int := (s &&& 0x0F).toNat + (d &&& 0x0F).toNat + x.toNat
  let r := if r > 9 then r + 6 else r
  let r := r + (s &&& 0xF0).toNat + (d &&& 0xF0).toNat
  if r > 0x99 then (BitVec.ofInt 8 (r - 0xA0), true) else (BitVec.ofInt 8 r, false)

/-- `sbcd(s, d, x)`, d - s - x (46 R1005). -/
def sbcd8 (s d : Byte) (x : Bool) : Byte × Bool :=
  let r : Int := (d &&& 0x0F).toNat - (s &&& 0x0F).toNat - x.toNat
  let r := if r < 0 ∨ r > 9 then r - 6 else r
  let r := r + (d &&& 0xF0).toNat - (s &&& 0xF0).toNat
  if r < 0 ∨ r > 0x99 then (BitVec.ofInt 8 (r + 0xA0), true) else (BitVec.ofInt 8 r, false)

/-- SR after a BCD operation: X and C the carry, Z cleared or kept, N and V free (46 R1005; log 4). -/
def bcdFlags (sr : Word) (r : Byte) (c n v : Bool) : Word := withXnzvc sr c n (r == 0 && srZ sr) v c

/-- The 68000 condition codes, on SR (10_state.md R73). -/
def cond16 (k : Cond16) (sr : Word) : Bool :=
  match k with
  | .t => true
  | .f => false
  | .hi => !srC sr && !srZ sr
  | .ls => srC sr || srZ sr
  | .cc => !srC sr
  | .cs => srC sr
  | .ne => !srZ sr
  | .eq => srZ sr
  | .vc => !srV sr
  | .vs => srV sr
  | .pl => !srN sr
  | .mi => srN sr
  | .ge => srN sr == srV sr
  | .lt => srN sr != srV sr
  | .gt => !srZ sr && srN sr == srV sr
  | .le => srZ sr || srN sr != srV sr

end Sys2Proof.Machine
end

