-- ==== Sys2Proof/Machine/Ops.lean ====
section
/-! DEFINITION. The named operations: memory and the bus decode of both spaces (20_memory.md), the register files
(10_state.md), the stacks (43 R700, 47 R1101), the vector resolver and taking a 68000 exception (60 R1250, R1260), SR
writes (R69, R70), the resets (70 R1300, R1301), the host's inputs and outputs, and the free values. -/

namespace Sys2Proof.Machine

/-! ### Memory as plain data (log 3) -/

/-- The byte at an address; an unlisted one reads 0x00. -/
def Memory.read (mem : Memory) (a : Nat) : Byte :=
  match mem with
  | [] => 0
  | (b, v) :: rest => if a = b then v else Memory.read rest a

/-- The memory with the byte at an address replaced; writing 0x00 unlists the address. -/
def Memory.write (mem : Memory) (a : Nat) (v : Byte) : Memory :=
  match mem with
  | [] => if v = 0 then [] else [(a, v)]
  | (b, x) :: rest =>
    if a < b then (if v = 0 then (b, x) :: rest else (a, v) :: (b, x) :: rest)
    else if a = b then (if v = 0 then rest else (a, v) :: rest)
    else (b, x) :: Memory.write rest a v

/-- Every listed address is at least `lo`, they rise strictly, and no listed byte is 0x00. -/
def Memory.wfFrom (lo : Nat) (mem : Memory) : Bool :=
  match mem with
  | [] => true
  | (b, v) :: rest => decide (lo ≤ b) && v != 0 && Memory.wfFrom (b + 1) rest

/-- The canonical form: addresses strictly rising, no byte 0x00 listed. -/
def Memory.wf (mem : Memory) : Bool := Memory.wfFrom 0 mem

/-- Every listed address is below `n`. -/
def Memory.below (n : Nat) (mem : Memory) : Bool := mem.all fun c => decide (c.1 < n)

/-- The memories of the bus in canonical form and inside their sizes (R16, R20). -/
def Bus.wf (b : Bus) : Bool :=
  Memory.wf b.zram && Memory.below 0x2000 b.zram && Memory.wf b.wram && Memory.below 0x10000 b.wram &&
    (match b.rom with
      | none => true
      | some im => decide (im.len ≤ 0x400000) && Memory.wf im.cells && Memory.below im.len im.cells)

/-! ### The bus decode -/

/-- The Z80 space, read (20_memory.md R158). -/
def Bus.readZ (b : Bus) (a : Word) : Byte :=
  if a.toNat < 0x2000 then Memory.read b.zram a.toNat else 0

/-- The Z80 space, written (R158). -/
def Bus.writeZ (b : Bus) (a : Word) (v : Byte) : Bus :=
  if a.toNat < 0x2000 then { b with zram := Memory.write b.zram a.toNat v } else b

/-- A byte of the cartridge window: 0x00 beyond the image (R153). -/
def Bus.readRom (b : Bus) (a : Nat) : Byte :=
  match b.rom with
  | none => 0
  | some im => if a < im.len then Memory.read im.cells a else 0

/-- The 68000 space, read (R153, R157). -/
def Bus.readM (b : Bus) (a : BitVec 24) : Byte :=
  if a.toNat < 0x400000 then Bus.readRom b a.toNat
  else if a.toNat < 0xA00000 then 0
  else if a.toNat < 0xA10000 then Bus.readZ b (a.extractLsb' 0 16)
  else if a.toNat < 0xFF0000 then (if b.pads.contains a.toNat then 0xFF else 0)
  else Memory.read b.wram (a.toNat % 0x10000)

/-- The 68000 space, written: ROM and stubs discard (R153, R155, R157). -/
def Bus.writeM (b : Bus) (a : BitVec 24) (v : Byte) : Bus :=
  if a.toNat < 0xA00000 then b
  else if a.toNat < 0xA10000 then Bus.writeZ b (a.extractLsb' 0 16) v
  else if a.toNat < 0xFF0000 then b
  else { b with wram := Memory.write b.wram (a.toNat % 0x10000) v }

/-! ### Writing a part of the state -/

/-- The state with another Z80. -/
def State.setZ (s : State) (z : Z80) : State := { s with z := z }

/-- The state with another 68000. -/
def State.setM (s : State) (m : M68k) : State := { s with m := m }

/-- The state with another bus. -/
def State.setBus (s : State) (b : Bus) : State := { s with bus := b }

/-- The event is output (00_scope.md R12). -/
def State.emit (s : State) (e : Event) : State := { s with events := s.events ++ [e] }

/-- The step returns this cycle count (70 R1310). -/
def State.took (s : State) (n : Nat) : State := { s with cycles := n }

/-- The call returns this fatal condition (60_exceptions.md R1200). -/
def State.raised (s : State) (f : Fault) : State := { s with fatal := some f }

/-- The call has returned no fatal condition so far. -/
def State.begun (s : State) : State := { s with fatal := none }

/-- One free value is drawn. -/
def State.drawn (s : State) : State := { s with draws := s.draws + 1 }

/-! ### Z80 accesses -/

/-- `MemRead8z` (R25). -/
def readZ8 (s : State) (a : Word) : Byte := Bus.readZ s.bus a

/-- `MemWrite8z` (R25). -/
def writeZ8 (s : State) (a : Word) (v : Byte) : State := s.setBus (Bus.writeZ s.bus a v)

/-- `MemRead16z`, little-endian (R164). -/
def readZ16 (s : State) (a : Word) : Word := pairOf (readZ8 s (a + 1)) (readZ8 s a)

/-- `MemWrite16z`, little-endian (R164). -/
def writeZ16 (s : State) (a : Word) (v : Word) : State := writeZ8 (writeZ8 s a (loByte v)) (a + 1) (hiByte v)

/-- `IoWrite(port, v)`: an event only (R159). -/
def ioWrite (s : State) (port : Word) (v : Byte) : State := s.emit (.ioWrite port v)

/-- The answer the host lists for a port. -/
def portAnswer (ports : List Host.Cell) (port : Nat) : Option Byte :=
  match ports with
  | [] => none
  | (p, v) :: rest => if port = p then some v else portAnswer rest port

/-- `IoRead(port)`: the host's answer, else a free value (R159; log 5). -/
def ioRead (s : State) (port : Word) : Byte × State :=
  match portAnswer s.host.ports port.toNat with
  | some v => (v, s)
  | none => (Config.z80IoRead port s.draws, s.drawn)

/-! ### Z80 registers (10_state.md R52, R55 to R62) -/

/-- A Z80 8-bit register of r[] (R55, R261). -/
def getR (z : Z80) (r : Reg8) : Byte :=
  match r with
  | .a => hiByte z.af
  | .b => hiByte z.bc
  | .c => loByte z.bc
  | .d => hiByte z.de
  | .e => loByte z.de
  | .h => hiByte z.hl
  | .l => loByte z.hl

/-- Writes a Z80 8-bit register of r[]: the other half of its pair stays (R52). -/
def setR (z : Z80) (r : Reg8) (v : Byte) : Z80 :=
  match r with
  | .a => { z with af := withHi z.af v }
  | .b => { z with bc := withHi z.bc v }
  | .c => { z with bc := withLo z.bc v }
  | .d => { z with de := withHi z.de v }
  | .e => { z with de := withLo z.de v }
  | .h => { z with hl := withHi z.hl v }
  | .l => { z with hl := withLo z.hl v }

/-- The accumulator A. -/
def getA (z : Z80) : Byte := hiByte z.af

/-- The flag register F. -/
def getF (z : Z80) : Byte := loByte z.af

/-- A and F written together. -/
def setAF (z : Z80) (a f : Byte) : Z80 := { z with af := pairOf a f }

/-- F written. -/
def setF (z : Z80) (f : Byte) : Z80 := { z with af := withLo z.af f }

/-- A pair of rp[] (R261). -/
def getRp (z : Z80) (p : Rp) : Word :=
  match p with
  | .bc => z.bc
  | .de => z.de
  | .hl => z.hl
  | .sp => z.sp

/-- Writes a pair of rp[]. -/
def setRp (z : Z80) (p : Rp) (v : Word) : Z80 :=
  match p with
  | .bc => { z with bc := v }
  | .de => { z with de := v }
  | .hl => { z with hl := v }
  | .sp => { z with sp := v }

/-- A pair of rp2[] (R261). -/
def getRp2 (z : Z80) (p : Rp2) : Word :=
  match p with
  | .bc => z.bc
  | .de => z.de
  | .hl => z.hl
  | .af => z.af

/-- Writes a pair of rp2[]. -/
def setRp2 (z : Z80) (p : Rp2) (v : Word) : Z80 :=
  match p with
  | .bc => { z with bc := v }
  | .de => { z with de := v }
  | .hl => { z with hl := v }
  | .af => { z with af := v }

/-- IX or IY (R57). -/
def getII (z : Z80) (ii : IndexReg) : Word :=
  match ii with
  | .ix => z.ix
  | .iy => z.iy

/-- Writes IX or IY. -/
def setII (z : Z80) (ii : IndexReg) (v : Word) : Z80 :=
  match ii with
  | .ix => { z with ix := v }
  | .iy => { z with iy := v }

/-- The operand pp[] of ADD ii,pp (40 R428). -/
def getPp (z : Z80) (ii : IndexReg) (p : Rpi) : Word :=
  match p with
  | .bc => z.bc
  | .de => z.de
  | .ii => getII z ii
  | .sp => z.sp

/-- WZ written (R62). -/
def setWZ (z : Z80) (v : Word) : Z80 := { z with wz := v }

/-- PC written. -/
def setPC (z : Z80) (v : Word) : Z80 := { z with pc := v }

/-- One refresh count of R: bits 6:0 modulo 128, bit 7 kept (R59, 30_encoding.md R257). -/
def bumpR (r : Byte) : Byte := (r &&& 0x80) ||| ((r + 1) &&& 0x7F)

/-- `push16(v)` (43 R700). -/
def push16 (s : State) (v : Word) : State :=
  let s := s.setZ { s.z with sp := s.z.sp - 1 }
  let s := writeZ8 s s.z.sp (hiByte v)
  let s := s.setZ { s.z with sp := s.z.sp - 1 }
  writeZ8 s s.z.sp (loByte v)

/-- `pop16()` (43 R700). -/
def pop16 (s : State) : Word × State :=
  (readZ16 s s.z.sp, s.setZ { s.z with sp := s.z.sp + 2 })

/-! ### 68000 accesses -/

/-- The bus address of a 32-bit address (R154). -/
def busAddr (addr : Long) : BitVec 24 := addr.extractLsb' 0 24

/-- `MemRead(addr, 1)` (R160). -/
def readM8 (b : Bus) (a : BitVec 24) : Byte := Bus.readM b a

/-- `MemRead(addr, 2)` on an aligned address, most significant byte first (R161). -/
def readM16 (b : Bus) (a : BitVec 24) : Word := readM8 b a ++ readM8 b (a + 1)

/-- `MemRead(addr, 4)` on an aligned address (R162). -/
def readM32 (b : Bus) (a : BitVec 24) : Long := readM16 b a ++ readM16 b (a + 2)

/-- `MemWrite(addr, 2, v)` on an aligned address (R161). -/
def writeM16 (b : Bus) (a : BitVec 24) (v : Word) : Bus :=
  Bus.writeM (Bus.writeM b a (hiByte v)) (a + 1) (loByte v)

/-- `MemWrite(addr, 4, v)` on an aligned address (R162). -/
def writeM32 (b : Bus) (a : BitVec 24) (v : Long) : Bus :=
  writeM16 (writeM16 b a (v.extractLsb' 16 16)) (a + 2) (v.extractLsb' 0 16)

/-- Whether an access of this size at this address is misaligned (R163). -/
def misaligned (addr : Long) (sz : Size) : Bool := sz != .b && addr.getLsbD 0

/-- `MemRead(addr, n)`: an odd word or long address raises before any byte is read (R160 to R163). -/
def memRead (s : State) (addr : Long) (sz : Size) : Except Fault Long :=
  if misaligned addr sz then .error (.misalignedAccess (busAddr addr))
  else .ok (match sz with
    | .b => (readM8 s.bus (busAddr addr)).zeroExtend 32
    | .w => (readM16 s.bus (busAddr addr)).zeroExtend 32
    | .l => readM32 s.bus (busAddr addr))

/-- The bus after an aligned write of a size. -/
def writeMem (b : Bus) (addr : Long) (sz : Size) (v : Long) : Bus :=
  match sz with
  | .b => Bus.writeM b (busAddr addr) (v.extractLsb' 0 8)
  | .w => writeM16 b (busAddr addr) (v.extractLsb' 0 16)
  | .l => writeM32 b (busAddr addr) v

/-- `MemWrite(addr, n, v)`: an odd word or long address raises before any byte is written (R160 to R163). -/
def memWrite (s : State) (addr : Long) (sz : Size) (v : Long) : Except Fault State :=
  if misaligned addr sz then .error (.misalignedAccess (busAddr addr))
  else .ok (s.setBus (writeMem s.bus addr sz v))

/-! ### 68000 registers (R66 to R72) -/

/-- `D[n]`. -/
def getD (s : State) (n : Fin 8) : Long := s.m.d[n]

/-- `A[n]`. -/
def getAn (s : State) (n : Fin 8) : Long := s.m.a[n]

/-- `D[n] <- v`, all 32 bits. -/
def setD (s : State) (n : Fin 8) (v : Long) : State := s.setM { s.m with d := s.m.d.set n v }

/-- `D[n] <- v` at a size: the bits above it stay (R66). -/
def setDsz (s : State) (n : Fin 8) (sz : Size) (v : Long) : State := setD s n (insertLow sz (getD s n) v)

/-- `A[n] <- v`, all 32 bits (R67). -/
def setAn (s : State) (n : Fin 8) (v : Long) : State := s.setM { s.m with a := s.m.a.set n v }

/-- `PC <- v`. -/
def setPc (s : State) (v : Long) : State := s.setM { s.m with pc := v }

/-- SR as a whole, with no mode change. -/
def setSr (s : State) (v : Word) : State := s.setM { s.m with sr := v }

/-- SR.S. -/
def supervisor (s : State) : Bool := s.m.sr.getLsbD 13

/-- SR.T. -/
def traceBit (s : State) : Bool := s.m.sr.getLsbD 15

/-- SR.I, the interrupt mask. -/
def intMask (s : State) : Nat := (s.m.sr.extractLsb' 8 3).toNat

/-- The exchange of A7 with `otherSP` (R69). -/
def swapStacks (s : State) : State :=
  s.setM { s.m with a := s.m.a.set 7 s.m.otherSP, otherSP := s.m.a[7] }

/-- `enterSupervisorMode()` (R69). -/
def enterSupervisorMode (s : State) : State :=
  if supervisor s then s else setSr (swapStacks s) (s.m.sr ||| 0x2000)

/-- `enterUserMode()` (R69). -/
def enterUserMode (s : State) : State :=
  if supervisor s then setSr (swapStacks s) (s.m.sr &&& ~~~ 0x2000#16) else s

/-- The writable bits of SR (R72, D45). -/
def srMask : Word := 0xA71F

/-- `writeSR(v)` (R70). -/
def writeSR (s : State) (v : Word) : State :=
  let v := v &&& srMask
  setSr (if v.getLsbD 13 then enterSupervisorMode s else enterUserMode s) v

/-- SR bits 4:0 written, the rest unchanged (R72; 46 R1001; 47 R1117, R1140). -/
def writeCCR (s : State) (v : Byte) : State :=
  setSr s ((s.m.sr &&& 0xFFE0) ||| (v &&& 0x1F).zeroExtend 16)

/-! ### 68000 stack (47 R1101) -/

/-- A push of a size on A7. -/
def push (s : State) (sz : Size) (v : Long) : Except Fault State :=
  let s := setAn s 7 (getAn s 7 - BitVec.ofNat 32 sz.bytes)
  memWrite s (getAn s 7) sz v

/-- A pop of a size from A7. -/
def pop (s : State) (sz : Size) : Except Fault (Long × State) := do
  let v ← memRead s (getAn s 7) sz
  return (v, setAn s 7 (getAn s 7 + BitVec.ofNat 32 sz.bytes))

/-! ### Vectors and exceptions (60_exceptions.md) -/

/-- `vectorRead(off)` (R1250). -/
def vectorRead (s : State) (off : Nat) : Except Fault Long := memRead s (BitVec.ofNat 32 off) .l

/-- `autovectorOffset(level)` (R1250). -/
def autovectorOffset (level : Nat) : Except Fault Nat :=
  if level < 1 ∨ level > 7 then .error (.invalidParameter .autovector level) else .ok (0x64 + 4 * (level - 1))

/-- `trapVectorOffset(id)` (R1250). -/
def trapVectorOffset (id : Nat) : Except Fault Nat :=
  if id < 1 ∨ id > 15 then .error (.invalidParameter .trap id) else .ok (0x80 + 4 * (id - 1))

/-- `getInterruptAutovector(level)` (R1250). -/
def getInterruptAutovector (s : State) (level : Nat) : Except Fault Long := do
  vectorRead s (← autovectorOffset level)

/-- The supervisor stack pointer: A7 in supervisor mode, `otherSP` in user mode (10_state.md R68). -/
def supervisorSp (s : State) : Long := if s.m.sr.getLsbD 13 then s.m.a[7] else s.m.otherSP

/-- `take Exception(offset, pushedPC)` (R1260): supervisor mode with T = 0, the six-byte frame of the pushed PC and the old
SR on the supervisor stack, and PC from the vector. -/
def takeException (s : State) (off : Nat) (pushedPC : Long) : Except Fault State := do
  let oldSR := s.m.sr
  let s := enterSupervisorMode s
  let s := setSr s (s.m.sr &&& ~~~ 0x8000#16)
  let s ← push s .l pushedPC
  let s ← push s .w (oldSR.zeroExtend 32)
  let s := s.setM { s.m with stopped := false }
  let target ← vectorRead s off
  return setPc s target

/-- The return from an exception, RTE's operation (47 R1118): SR, then PC, popped from the supervisor stack before the
mode may change. -/
def returnFromException (s : State) : Except Fault State := do
  let (v, s) ← pop s .w
  let (pc, s) ← pop s .l
  return setPc (writeSR s (v.extractLsb' 0 16)) pc

/-! ### Ending a meaning -/

/-- A 68000 operation's end as the outcome of `exec`: a fatal condition ends it (00_scope.md R26, R1204). -/
def finish (r : Except Fault State) : Host.Outcome State Fault Refusal :=
  match r with
  | .ok s => .next s
  | .error f => .fault f

/-- A Z80 operation's end with its T-states (70 R1311): no Z80 instruction can fail (60 R1273). -/
def zDone (t : Nat) (s : State) : Host.Outcome State Fault Refusal := .next (s.took t)

/-! ### Free values (log 4) -/

/-- A flag the spec leaves any value. -/
def freeFlag (s : State) : Bool × State := (Config.freeBit s.draws, s.drawn)

/-! ### Resets and the host's inputs -/

/-- Z80 `reset()` (70 R1300). -/
def resetZ80 (s : State) : State := s.setZ Z80.afterReset

/-- 68000 `reset()` (70 R1301); `pc0` is the model's field (log 11). -/
def resetM68k (s : State) : Except Fault State :=
  match s.bus.rom with
  | none => .error .noImage
  | some _ => do
    let ssp ← vectorRead s 0
    let pc ← vectorRead s 4
    return s.setM (M68k.afterReset ssp pc)

/-- Lists an answer for a port, replacing an earlier one. -/
def setPort (ports : List Host.Cell) (port : Nat) (v : Byte) : List Host.Cell :=
  match ports with
  | [] => [(port, v)]
  | (p, x) :: rest =>
    if port < p then (port, v) :: (p, x) :: rest
    else if port = p then (port, v) :: rest
    else (p, x) :: setPort rest port v

/-- The host drives one input (00_scope.md R12): `m68kIpl` rising to 7 sets the level-7 latch (10_state.md R74), `z80Nmi` sets
`nmiPending` (60 R1271). -/
def applyDrive (s : State) (d : Drive) : State :=
  match d with
  | .ipl level =>
    { s with
      host := { s.host with ipl := level }
      m := if s.host.ipl.val < 7 ∧ level.val = 7 then { s.m with nmi7Pending := true } else s.m }
  | .z80Int level => { s with host := { s.host with z80Int := level } }
  | .z80Nmi => s.setZ { s.z with nmiPending := true }
  | .z80IntData v => { s with host := { s.host with z80IntData := v } }
  | .portIn port v => { s with host := { s.host with ports := setPort s.host.ports port.toNat v } }

/-- The host drives its inputs in turn. -/
def applyDrives (s : State) (ds : List Drive) : State :=
  match ds with
  | [] => s
  | d :: rest => applyDrives (applyDrive s d) rest

end Sys2Proof.Machine
end

