-- ==== Sys2Proof/Machine/Operands.lean ====
section
/-! DEFINITION. Every operand form: the Z80's `get8` and `set8` (30_encoding.md R262) and the 68000's effective addresses
and operand access (45 R901 to R903). -/

namespace Sys2Proof.Machine

/-! ### Z80 (R262) -/

/-- The address ii + d (R262, R263). -/
def idxAddr (z : Z80) (ii : IndexReg) (d : Byte) : Word := getII z ii + sext8 d

/-- The state with WZ at the indexed address, as every `(ii+d)` access leaves it (R262). -/
def atIndex (s : State) (ii : IndexReg) (d : Byte) : State := s.setZ (setWZ s.z (idxAddr s.z ii d))

/-- `get8` of a CB-map operand (R262). -/
def getLoc8 (s : State) (l : Loc8) : Byte :=
  match l with
  | .reg r => getR s.z r
  | .hlInd => readZ8 s s.z.hl

/-- `set8` of a CB-map operand (R262). -/
def setLoc8 (s : State) (l : Loc8) (v : Byte) : State :=
  match l with
  | .reg r => s.setZ (setR s.z r v)
  | .hlInd => writeZ8 s s.z.hl v

/-! ### 68000 effective addresses (45 R901) -/

/-- A resolved location (R901). -/
inductive Loc
  | dreg (n : Fin 8)
  | areg (n : Fin 8)
  | mem (addr : Long)
  | imm (v : Long)
deriving DecidableEq, Repr

/-- `inc(sz, reg)`: a byte on A7 counts 2 (R901). -/
def eaStep (sz : Size) (n : Fin 8) : Long :=
  match sz with
  | .b => if n = 7 then 2 else 1
  | .w => 2
  | .l => 4

/-- `idx(w)` (R901). -/
def indexValue (s : State) (x : IndexX) : Long :=
  let r := if x.isAddr then getAn s x.reg else getD s x.reg
  if x.long then r else sextL .w r

/-- The address of an instruction's first extension word (47 R1100, 30_encoding.md R275). -/
def firstExt (s : State) : Long := s.m.pc0 + 2

/-- The address of an instruction's second extension word, for one whose first is no part of the effective address. -/
def secondExt (s : State) : Long := s.m.pc0 + 4

/-- The address a control mode names, without side effect (R901); `pw` is the address of the extension word. -/
def eaAddr (s : State) (pw : Long) (e : Ea) : Long :=
  match e with
  | .ind n | .postInc n | .preDec n => getAn s n
  | .disp n d => getAn s n + d.signExtend 32
  | .index n x d => getAn s n + d.signExtend 32 + indexValue s x
  | .absW a => a.signExtend 32
  | .absL a => a
  | .pcDisp d => pw + d.signExtend 32
  | .pcIndex x d => pw + d.signExtend 32 + indexValue s x
  | .dreg _ | .areg _ | .imm _ => 0

/-- `ea(mode, reg, sz) -> loc`, with the side effect of (An)+ and -(An) (R901). -/
def resolve (s : State) (sz : Size) (pw : Long) (e : Ea) : Loc × State :=
  match e with
  | .dreg n => (.dreg n, s)
  | .areg n => (.areg n, s)
  | .imm v => (.imm v, s)
  | .postInc n => (.mem (getAn s n), setAn s n (getAn s n + eaStep sz n))
  | .preDec n => (.mem (getAn s n - eaStep sz n), setAn s n (getAn s n - eaStep sz n))
  | e => (.mem (eaAddr s pw e), s)

/-- `read(loc, sz)` (R902). -/
def readLoc (s : State) (sz : Size) (l : Loc) : Except Fault Long :=
  match l with
  | .dreg n => .ok (cut sz (getD s n))
  | .areg n => .ok (cut sz (getAn s n))
  | .mem a => memRead s a sz
  | .imm v => .ok (cut sz v)

/-- `write(loc, sz, v)` (R902); an immediate is read only, and no encoding writes one (log 16). -/
def writeLoc (s : State) (sz : Size) (l : Loc) (v : Long) : Except Fault State :=
  match l with
  | .dreg n => .ok (setDsz s n sz v)
  | .areg n => .ok (setAn s n (sextL sz v))
  | .mem a => memWrite s a sz v
  | .imm _ => .ok s

/-- A source operand: resolved, then read (R903). -/
def loadEa (s : State) (sz : Size) (pw : Long) (e : Ea) : Except Fault (Long × State) := do
  let (l, s) := resolve s sz pw e
  let v ← readLoc s sz l
  return (v, s)

/-- A destination operand that is not read: resolved, then written (R903). -/
def storeEa (s : State) (sz : Size) (pw : Long) (e : Ea) (v : Long) : Except Fault State :=
  let (l, s) := resolve s sz pw e
  writeLoc s sz l v

/-- A read-modify-write operand: resolved once, read, and the value and SR that `f` makes of it written (R902). -/
def modifyEa (s : State) (sz : Size) (pw : Long) (e : Ea) (f : Word → Long → Long × Word) : Except Fault State := do
  let (l, s) := resolve s sz pw e
  let v ← readLoc s sz l
  let (r, sr) := f s.m.sr v
  let s ← writeLoc s sz l r
  return setSr s sr

/-- The address of the operand a meaning writes, after the side effect of resolving it: for the frames. -/
def destAddr (s : State) (sz : Size) (pw : Long) (e : Ea) : Option Long :=
  match (resolve s sz pw e).1 with
  | .mem a => some a
  | _ => none

end Sys2Proof.Machine
end

