-- ==== Sys2Proof/Machine/M68kArith.lean ====
section
/-! DEFINITION. 68000 integer arithmetic (45_m68k_data_arith.md R930 to R949). Every meaning is called with PC past the
instruction and `pc0` at its operation word. -/

namespace Sys2Proof.Machine

/-! ### Shared operations -/

/-- `D[n] <- op(read(ea), D[n], 0, sz)` with its flags (R930, R935). -/
def arithToD (op : Long → Long → Bool → Size → Alu) (sz : Size) (ea : Ea) (n : Fin 8) (s : State) : Except Fault State := do
  let (v, s) ← loadEa s sz (firstExt s) ea
  let a := op v (getD s n) false sz
  return setSr (setDsz s n sz a.r) (aluFlags s.m.sr a)

/-- `write(loc, sz, op(src, read(loc, sz), 0, sz))` with its flags (R930, R932, R935, R937). -/
def arithToEa (op : Long → Long → Bool → Size → Alu) (sz : Size) (src : Long) (pw : Long) (ea : Ea) (s : State) :
    Except Fault State :=
  modifyEa s sz pw ea fun sr v => ((op src v false sz).r, aluFlags sr (op src v false sz))

/-- The quick data 1 to 8 of ADDQ and SUBQ, 0 meaning 8 (30_encoding.md R280). -/
def quick (q : Fin 8) : Long := if q = 0 then 8 else BitVec.ofNat 32 q.val

/-- ADDQ and SUBQ: on An all 32 bits and no flag (R933, R938). -/
def arithQuick (op : Long → Long → Bool → Size → Alu) (q : Fin 8) (sz : Size) (ea : Ea) (s : State) : Except Fault State :=
  match ea with
  | .areg n => .ok (setAn s n (op (quick q) (getAn s n) false .l).r)
  | e => arithToEa op sz (quick q) (firstExt s) e s

/-- ADDA and SUBA: a word source sign-extended, no flag (R931, R936). -/
def arithToA (op : Long → Long → Bool → Size → Alu) (sz : Size) (ea : Ea) (n : Fin 8) (s : State) : Except Fault State := do
  let (v, s) ← loadEa s sz (firstExt s) ea
  return setAn s n (op (sextL sz v) (getAn s n) false .l).r

/-- -(An), read: the byte, word or long below An, with An decremented (R934). -/
def loadPre (s : State) (sz : Size) (n : Fin 8) : Except Fault (Long × State) := loadEa s sz 0 (.preDec n)

/-- ADDX and SUBX (R934, R939). -/
def arithX (op : Long → Long → Bool → Size → Alu) (sz : Size) (f : XForm) (y x : Fin 8) (s : State) : Except Fault State :=
  match f with
  | .regs =>
    let a := op (getD s y) (getD s x) (srX s.m.sr) sz
    .ok (setSr (setDsz s x sz a.r) (aluFlagsX s.m.sr a))
  | .mem => do
    let (v, s) ← loadPre s sz y
    modifyEa s sz 0 (.preDec x) fun sr d => ((op v d (srX sr) sz).r, aluFlagsX sr (op v d (srX sr) sz))

/-- A compare of a source with a destination at a size: flags only (R907). -/
def compared (s : State) (sz : Size) (src dst : Long) : State := setSr s (cmpFlags s.m.sr (subf src dst false sz))

/-! ### Addition -/

/-- ADD <ea>,Dn (R930). -/
def execAddEaD (sz : Size) (ea : Ea) (n : Fin 8) (s : State) : Host.Outcome State Fault Refusal :=
  finish (arithToD addf sz ea n s)

/-- ADD Dn,<ea> (R930). -/
def execAddDEa (sz : Size) (n : Fin 8) (ea : Ea) (s : State) : Host.Outcome State Fault Refusal :=
  finish (arithToEa addf sz (getD s n) (firstExt s) ea s)

/-- ADDA (R931). -/
def execAdda (sz : Size) (ea : Ea) (n : Fin 8) (s : State) : Host.Outcome State Fault Refusal :=
  finish (arithToA addf sz ea n s)

/-- ADDI (R932). -/
def execAddiEa (sz : Size) (imm : Long) (ea : Ea) (s : State) : Host.Outcome State Fault Refusal :=
  finish (arithToEa addf sz imm (firstExt s) ea s)

/-- ADDQ (R933). -/
def execAddq (q : Fin 8) (sz : Size) (ea : Ea) (s : State) : Host.Outcome State Fault Refusal :=
  finish (arithQuick addf q sz ea s)

/-- ADDX (R934). -/
def execAddx (sz : Size) (f : XForm) (y x : Fin 8) (s : State) : Host.Outcome State Fault Refusal :=
  finish (arithX addf sz f y x s)

/-! ### Subtraction -/

/-- SUB <ea>,Dn (R935). -/
def execSubEaD (sz : Size) (ea : Ea) (n : Fin 8) (s : State) : Host.Outcome State Fault Refusal :=
  finish (arithToD subf sz ea n s)

/-- SUB Dn,<ea> (R935). -/
def execSubDEa (sz : Size) (n : Fin 8) (ea : Ea) (s : State) : Host.Outcome State Fault Refusal :=
  finish (arithToEa subf sz (getD s n) (firstExt s) ea s)

/-- SUBA (R936). -/
def execSuba (sz : Size) (ea : Ea) (n : Fin 8) (s : State) : Host.Outcome State Fault Refusal :=
  finish (arithToA subf sz ea n s)

/-- SUBI (R937). -/
def execSubiEa (sz : Size) (imm : Long) (ea : Ea) (s : State) : Host.Outcome State Fault Refusal :=
  finish (arithToEa subf sz imm (firstExt s) ea s)

/-- SUBQ (R938). -/
def execSubq (q : Fin 8) (sz : Size) (ea : Ea) (s : State) : Host.Outcome State Fault Refusal :=
  finish (arithQuick subf q sz ea s)

/-- SUBX (R939). -/
def execSubx (sz : Size) (f : XForm) (y x : Fin 8) (s : State) : Host.Outcome State Fault Refusal :=
  finish (arithX subf sz f y x s)

/-- NEG (R940). -/
def execNegEa (sz : Size) (ea : Ea) (s : State) : Host.Outcome State Fault Refusal :=
  finish (modifyEa s sz (firstExt s) ea fun sr v => ((subf v 0 false sz).r, aluFlags sr (subf v 0 false sz)))

/-- NEGX (R941). -/
def execNegx (sz : Size) (ea : Ea) (s : State) : Host.Outcome State Fault Refusal :=
  finish (modifyEa s sz (firstExt s) ea fun sr v => ((subf v 0 (srX sr) sz).r, aluFlagsX sr (subf v 0 (srX sr) sz)))

/-! ### Comparison -/

/-- CMP <ea>,Dn (R942). -/
def execCmpEaD (sz : Size) (ea : Ea) (n : Fin 8) (s : State) : Host.Outcome State Fault Refusal :=
  finish (do
    let (v, s) ← loadEa s sz (firstExt s) ea
    return compared s sz v (getD s n))

/-- CMPA, always at 32 bits (R943). -/
def execCmpa (sz : Size) (ea : Ea) (n : Fin 8) (s : State) : Host.Outcome State Fault Refusal :=
  finish (do
    let (v, s) ← loadEa s sz (firstExt s) ea
    return compared s .l (sextL sz v) (getAn s n))

/-- CMPI (R944). -/
def execCmpiEa (sz : Size) (imm : Long) (ea : Ea) (s : State) : Host.Outcome State Fault Refusal :=
  finish (do
    let (v, s) ← loadEa s sz (firstExt s) ea
    return compared s sz imm v)

/-- CMPM (R945). -/
def execCmpm (sz : Size) (y x : Fin 8) (s : State) : Host.Outcome State Fault Refusal :=
  finish (do
    let (v, s) ← loadEa s sz 0 (.postInc y)
    let (d, s) ← loadEa s sz 0 (.postInc x)
    return compared s sz v d)

/-! ### Multiplication and division -/

/-- The signed value of a word in the low half of a long. -/
def signedWord (v : Long) : Int := (v.extractLsb' 0 16).toInt

/-- `D[n] <- r` with its flags (R946, R947). -/
def product (s : State) (n : Fin 8) (r : Long) : State :=
  setSr (setD s n r) (withNzvc s.m.sr (r.getLsbD 31) (r == 0) false false)

/-- MULU.W (R946). -/
def execMulu (ea : Ea) (n : Fin 8) (s : State) : Host.Outcome State Fault Refusal :=
  finish (do
    let (v, s) ← loadEa s .w (firstExt s) ea
    return product s n (BitVec.ofNat 32 ((cut .w (getD s n)).toNat * v.toNat)))

/-- MULS.W (R947). -/
def execMuls (ea : Ea) (n : Fin 8) (s : State) : Host.Outcome State Fault Refusal :=
  finish (do
    let (v, s) ← loadEa s .w (firstExt s) ea
    return product s n (BitVec.ofInt 32 (signedWord (getD s n) * signedWord v)))

/-- A division by zero: N, Z and V free, C = 0, then the zero-divide exception (R948, R949; log 4). -/
def divideByZero (s : State) : Except Fault State :=
  let (n, s) := freeFlag s
  let (z, s) := freeFlag s
  let (v, s) := freeFlag s
  let s := setSr s (withNzvc s.m.sr n z v false)
  takeException s 0x14 s.m.pc

/-- A quotient that does not fit: V = 1, C = 0, N and Z free, Dn unchanged (R948, R949; log 4). -/
def divideOverflow (s : State) : State :=
  let (n, s) := freeFlag s
  let (z, s) := freeFlag s
  setSr s (withNzvc s.m.sr n z true false)

/-- A quotient that fits, under the remainder in Dn (R948, R949). -/
def quotient (s : State) (n : Fin 8) (q rem : Word) : State :=
  setSr (setD s n (rem ++ q)) (withNzvc s.m.sr (q.getLsbD 15) (q == 0) false false)

/-- DIVU.W (R948). -/
def execDivu (ea : Ea) (n : Fin 8) (s : State) : Host.Outcome State Fault Refusal :=
  finish (do
    let (v, s) ← loadEa s .w (firstExt s) ea
    let d := (getD s n).toNat
    if v.toNat = 0 then divideByZero s
    else if d / v.toNat > 0xFFFF then return divideOverflow s
    else return quotient s n (BitVec.ofNat 16 (d / v.toNat)) (BitVec.ofNat 16 (d % v.toNat)))

/-- DIVS.W: the quotient truncated toward zero, the remainder with the dividend's sign (R949). -/
def execDivs (ea : Ea) (n : Fin 8) (s : State) : Host.Outcome State Fault Refusal :=
  finish (do
    let (v, s) ← loadEa s .w (firstExt s) ea
    let d := (getD s n).toInt
    let b := signedWord v
    let q := Int.tdiv d b
    if b = 0 then divideByZero s
    else if q < -32768 ∨ q > 32767 then return divideOverflow s
    else return quotient s n (BitVec.ofInt 16 q) (BitVec.ofInt 16 (d - q * b)))

end Sys2Proof.Machine
end

