-- ==== Sys2Proof/Machine/M68kBit.lean ====
section
/-! DEFINITION. 68000 bit operations, decimal arithmetic, Scc and TAS (46_m68k_logic_shift_bit.md R1040 to R1054). Every
meaning is called with PC past the instruction and `pc0` at its operation word. -/

namespace Sys2Proof.Machine

/-! ### Shared operations -/

/-- The bit operations that write (R1004). -/
inductive BitKind | chg | clr | set
deriving DecidableEq, Repr

/-- The value with bit k changed, cleared or set (R1004). -/
def bitResult (kind : BitKind) (v : Long) (k : Nat) : Long :=
  let one : Long := 1 <<< k
  match kind with
  | .chg => v ^^^ one
  | .clr => v &&& ~~~ one
  | .set => v ||| one

/-- The size and the modulus of a bit operation: a long register, or a byte of memory or of an immediate (R1004, R1040). -/
def bitSize (ea : Ea) : Size :=
  match ea with
  | .dreg _ => .l
  | _ => .b

/-- The bit number modulo the operand's width (R1004). -/
def bitIndex (ea : Ea) (number : Long) : Nat := number.toNat % bits (bitSize ea)

/-- BTST: Z alone (R1004, R1040). -/
def bitTest (number : Long) (pw : Long) (ea : Ea) (s : State) : Except Fault State := do
  let (v, s) ← loadEa s (bitSize ea) pw ea
  return setSr s (withZ s.m.sr (!v.getLsbD (bitIndex ea number)))

/-- BCHG, BCLR, BSET: Z of the old bit, then the result written (R1004). -/
def bitModify (kind : BitKind) (number : Long) (pw : Long) (ea : Ea) (s : State) : Except Fault State :=
  modifyEa s (bitSize ea) pw ea fun sr v =>
    (bitResult kind v (bitIndex ea number), withZ sr (!v.getLsbD (bitIndex ea number)))

/-- SR after a BCD operation, N and V drawn (R1005; log 4). -/
def bcdDone (s : State) (r : Byte) (c : Bool) : State :=
  let (n, s) := freeFlag s
  let (v, s) := freeFlag s
  setSr s (bcdFlags s.m.sr r c n v)

/-- The byte in the low end of a long. -/
def byteAt (v : Long) : Byte := v.extractLsb' 0 8

/-- ABCD and SBCD (R1050, R1051). -/
def bcdBinary (op : Byte → Byte → Bool → Byte × Bool) (f : XForm) (y x : Fin 8) (s : State) : Except Fault State :=
  match f with
  | .regs =>
    let r := op (byteAt (getD s y)) (byteAt (getD s x)) (srX s.m.sr)
    .ok (bcdDone (setDsz s x .b (r.1.zeroExtend 32)) r.1 r.2)
  | .mem => do
    let (v, s) ← loadEa s .b 0 (.preDec y)
    let (l, s) := resolve s .b 0 (.preDec x)
    let d ← readLoc s .b l
    let r := op (byteAt v) (byteAt d) (srX s.m.sr)
    let s ← writeLoc s .b l (r.1.zeroExtend 32)
    return bcdDone s r.1 r.2

/-! ### Bit operations -/

/-- BTST Dn,<ea> (R1040). -/
def execBtstD (n : Fin 8) (ea : Ea) (s : State) : Host.Outcome State Fault Refusal :=
  finish (bitTest (getD s n) (firstExt s) ea s)

/-- BTST #n,<ea>: the bit number word stands before the EA's words (R1004, R1040). -/
def execBtstN (n : Byte) (ea : Ea) (s : State) : Host.Outcome State Fault Refusal :=
  finish (bitTest (n.zeroExtend 32) (secondExt s) ea s)

/-- BCHG Dn,<ea> (R1041). -/
def execBchgD (n : Fin 8) (ea : Ea) (s : State) : Host.Outcome State Fault Refusal :=
  finish (bitModify .chg (getD s n) (firstExt s) ea s)

/-- BCHG #n,<ea> (R1041). -/
def execBchgN (n : Byte) (ea : Ea) (s : State) : Host.Outcome State Fault Refusal :=
  finish (bitModify .chg (n.zeroExtend 32) (secondExt s) ea s)

/-- BCLR Dn,<ea> (R1042). -/
def execBclrD (n : Fin 8) (ea : Ea) (s : State) : Host.Outcome State Fault Refusal :=
  finish (bitModify .clr (getD s n) (firstExt s) ea s)

/-- BCLR #n,<ea> (R1042). -/
def execBclrN (n : Byte) (ea : Ea) (s : State) : Host.Outcome State Fault Refusal :=
  finish (bitModify .clr (n.zeroExtend 32) (secondExt s) ea s)

/-- BSET Dn,<ea> (R1043). -/
def execBsetD (n : Fin 8) (ea : Ea) (s : State) : Host.Outcome State Fault Refusal :=
  finish (bitModify .set (getD s n) (firstExt s) ea s)

/-- BSET #n,<ea> (R1043). -/
def execBsetN (n : Byte) (ea : Ea) (s : State) : Host.Outcome State Fault Refusal :=
  finish (bitModify .set (n.zeroExtend 32) (secondExt s) ea s)

/-! ### Decimal arithmetic -/

/-- ABCD (R1050). -/
def execAbcd (f : XForm) (y x : Fin 8) (s : State) : Host.Outcome State Fault Refusal := finish (bcdBinary abcd8 f y x s)

/-- SBCD (R1051). -/
def execSbcd (f : XForm) (y x : Fin 8) (s : State) : Host.Outcome State Fault Refusal := finish (bcdBinary sbcd8 f y x s)

/-- NBCD (R1052). -/
def execNbcd (ea : Ea) (s : State) : Host.Outcome State Fault Refusal :=
  finish (do
    let (l, s) := resolve s .b (firstExt s) ea
    let v ← readLoc s .b l
    let r := sbcd8 (byteAt v) 0 (srX s.m.sr)
    let s ← writeLoc s .b l (r.1.zeroExtend 32)
    return bcdDone s r.1 r.2)

/-! ### Conditional set and test-and-set -/

/-- Scc (R1053). -/
def execScc (cond : Cond16) (ea : Ea) (s : State) : Host.Outcome State Fault Refusal :=
  finish (storeEa s .b (firstExt s) ea (if cond16 cond s.m.sr then 0xFF else 0))

/-- TAS (R1054). -/
def execTas (ea : Ea) (s : State) : Host.Outcome State Fault Refusal :=
  finish (modifyEa s .b (firstExt s) ea fun sr v => (v ||| 0x80, moveFlags sr .b v))

end Sys2Proof.Machine
end

