-- ==== Sys2Proof/Machine/M68kControl.lean ====
section
/-! DEFINITION. 68000 branches, jumps, returns, LINK and UNLK, and the trap-generating instructions
(47_m68k_control_system.md R1110 to R1135). Every meaning is called with PC past the instruction and `pc0` at its operation
word. -/

namespace Sys2Proof.Machine

/-! ### Shared operations -/

/-- The displacement of a branch (R1102). -/
def branchDisp (d : BrDisp) : Long :=
  match d with
  | .short d => d.signExtend 32
  | .word d => d.signExtend 32

/-- The target of a branch, `PC0 + 2 + disp` (R1102). -/
def branchTarget (s : State) (d : BrDisp) : Long := s.m.pc0 + 2 + branchDisp d

/-! ### Branches and jumps -/

/-- BRA (R1110). -/
def execBra (d : BrDisp) (s : State) : Host.Outcome State Fault Refusal := .next (setPc s (branchTarget s d))

/-- BSR (R1111). -/
def execBsr (d : BrDisp) (s : State) : Host.Outcome State Fault Refusal :=
  finish (do
    let t ← push s .l s.m.pc
    return setPc t (branchTarget s d))

/-- Bcc (R1112). -/
def execBcc (cond : Cond16) (d : BrDisp) (s : State) : Host.Outcome State Fault Refusal :=
  .next (if cond16 cond s.m.sr then setPc s (branchTarget s d) else s)

/-- DBcc (R1113). -/
def execDbcc (cond : Cond16) (n : Fin 8) (d : Word) (s : State) : Host.Outcome State Fault Refusal :=
  .next (if cond16 cond s.m.sr then setPc s (s.m.pc0 + 4)
    else
      let c := (getD s n).extractLsb' 0 16 - 1
      let t := setDsz s n .w (c.zeroExtend 32)
      if c = 0xFFFF then setPc t (s.m.pc0 + 4) else setPc t (branchTarget s (.word d)))

/-- JMP (R1114). -/
def execJmp (ea : Ea) (s : State) : Host.Outcome State Fault Refusal := .next (setPc s (eaAddr s (firstExt s) ea))

/-- JSR: the address is formed before the push (R1115). -/
def execJsr (ea : Ea) (s : State) : Host.Outcome State Fault Refusal :=
  finish (do
    let t ← push s .l s.m.pc
    return setPc t (eaAddr s (firstExt s) ea))

/-! ### Returns and stack frames -/

/-- RTS (R1116). -/
def execRts (s : State) : Host.Outcome State Fault Refusal :=
  finish (do
    let (pc, s) ← pop s .l
    return setPc s pc)

/-- RTR (R1117). -/
def execRtr (s : State) : Host.Outcome State Fault Refusal :=
  finish (do
    let (c, s) ← pop s .w
    let s := writeCCR s (c.extractLsb' 0 8)
    let (pc, s) ← pop s .l
    return setPc s pc)

/-- LINK: `LINK A7` pushes A7 after its decrement (R1119). -/
def execLink (n : Fin 8) (d : Word) (s : State) : Host.Outcome State Fault Refusal :=
  finish (do
    let s := setAn s 7 (getAn s 7 - 4)
    let s ← memWrite s (getAn s 7) .l (getAn s n)
    let s := setAn s n (getAn s 7)
    return setAn s 7 (getAn s 7 + d.signExtend 32))

/-- UNLK: `UNLK A7` gives A7 the popped long (R1120). -/
def execUnlk (n : Fin 8) (s : State) : Host.Outcome State Fault Refusal :=
  finish (do
    let s := setAn s 7 (getAn s n)
    let (v, s) ← pop s .l
    return setAn s n v)

/-! ### Trap-generating instructions -/

/-- TRAP: `TRAP #15` raises InvalidParameter(trap, 16) (R1130). -/
def execTrap (v : Fin 16) (s : State) : Host.Outcome State Fault Refusal :=
  finish (do
    let off ← trapVectorOffset (v.val + 1)
    takeException s off s.m.pc)

/-- TRAPV (R1131). -/
def execTrapv (s : State) : Host.Outcome State Fault Refusal :=
  if srV s.m.sr then finish (takeException s 0x1C s.m.pc) else .next s

/-- CHK: Z, V, C free; N is 1 or 0 with the trap and free without it (R1132; log 4). -/
def execChk (ea : Ea) (n : Fin 8) (s : State) : Host.Outcome State Fault Refusal :=
  finish (do
    let (b, s) ← loadEa s .w (firstExt s) ea
    let bound := (b.extractLsb' 0 16).toInt
    let d := ((getD s n).extractLsb' 0 16).toInt
    let (fz, s) := freeFlag s
    let (fv, s) := freeFlag s
    let (fc, s) := freeFlag s
    if d < 0 then takeException (setSr s (withNzvc s.m.sr true fz fv fc)) 0x18 s.m.pc
    else if d > bound then takeException (setSr s (withNzvc s.m.sr false fz fv fc)) 0x18 s.m.pc
    else
      let (fn, s) := freeFlag s
      return setSr s (withNzvc s.m.sr fn fz fv fc))

/-- ILLEGAL: the pushed PC is its own address (R1133). -/
def execIllegal (s : State) : Host.Outcome State Fault Refusal := finish (takeException s 0x10 s.m.pc0)

/-- Line A, any word (R1134). -/
def execLineA (_w : BitVec 12) (s : State) : Host.Outcome State Fault Refusal := finish (takeException s 0x28 s.m.pc0)

/-- Line F, any word (R1135). -/
def execLineF (_w : BitVec 12) (s : State) : Host.Outcome State Fault Refusal := finish (takeException s 0x2C s.m.pc0)

end Sys2Proof.Machine
end

