-- ==== Sys2Proof/Machine/M68kLogic.lean ====
section
/-! DEFINITION. 68000 logic (46_m68k_logic_shift_bit.md R1010 to R1019; the SR forms are in M68kSystem.lean). Every meaning is
called with PC past the instruction and `pc0` at its operation word. -/

namespace Sys2Proof.Machine

/-! ### Shared operations -/

/-- `D[n] <- op(read(ea), D[n])` with the logical flags (R1000, R1010). -/
def logicToD (op : Long → Long → Long) (sz : Size) (ea : Ea) (n : Fin 8) (s : State) : Except Fault State := do
  let (v, s) ← loadEa s sz (firstExt s) ea
  let r := op v (getD s n)
  return setSr (setDsz s n sz r) (moveFlags s.m.sr sz r)

/-- `write(loc, sz, op(src, read(loc, sz)))` with the logical flags (R1000, R1011). -/
def logicToEa (op : Long → Long → Long) (sz : Size) (src : Long) (ea : Ea) (s : State) : Except Fault State :=
  modifyEa s sz (firstExt s) ea fun sr v => (op src v, moveFlags sr sz (op src v))

/-! ### Meanings -/

/-- AND <ea>,Dn (R1010). -/
def execAndEaD (sz : Size) (ea : Ea) (n : Fin 8) (s : State) : Host.Outcome State Fault Refusal :=
  finish (logicToD (· &&& ·) sz ea n s)

/-- AND Dn,<ea> (R1010). -/
def execAndDEa (sz : Size) (n : Fin 8) (ea : Ea) (s : State) : Host.Outcome State Fault Refusal :=
  finish (logicToEa (· &&& ·) sz (getD s n) ea s)

/-- ANDI (R1011). -/
def execAndiEa (sz : Size) (imm : Long) (ea : Ea) (s : State) : Host.Outcome State Fault Refusal :=
  finish (logicToEa (· &&& ·) sz imm ea s)

/-- OR <ea>,Dn (R1012). -/
def execOrEaD (sz : Size) (ea : Ea) (n : Fin 8) (s : State) : Host.Outcome State Fault Refusal :=
  finish (logicToD (· ||| ·) sz ea n s)

/-- OR Dn,<ea> (R1012). -/
def execOrDEa (sz : Size) (n : Fin 8) (ea : Ea) (s : State) : Host.Outcome State Fault Refusal :=
  finish (logicToEa (· ||| ·) sz (getD s n) ea s)

/-- ORI (R1013). -/
def execOriEa (sz : Size) (imm : Long) (ea : Ea) (s : State) : Host.Outcome State Fault Refusal :=
  finish (logicToEa (· ||| ·) sz imm ea s)

/-- EOR Dn,<ea> (R1014). -/
def execEorDEa (sz : Size) (n : Fin 8) (ea : Ea) (s : State) : Host.Outcome State Fault Refusal :=
  finish (logicToEa (· ^^^ ·) sz (getD s n) ea s)

/-- EORI (R1015). -/
def execEoriEa (sz : Size) (imm : Long) (ea : Ea) (s : State) : Host.Outcome State Fault Refusal :=
  finish (logicToEa (· ^^^ ·) sz imm ea s)

/-- NOT (R1016). -/
def execNotEa (sz : Size) (ea : Ea) (s : State) : Host.Outcome State Fault Refusal :=
  finish (modifyEa s sz (firstExt s) ea fun sr v => (~~~ v, moveFlags sr sz (~~~ v)))

/-- ANDI to CCR (R1001, R1017). -/
def execAndiCcr (imm : Byte) (s : State) : Host.Outcome State Fault Refusal :=
  .next (writeCCR s (loByte s.m.sr &&& imm))

/-- ORI to CCR (R1001, R1018). -/
def execOriCcr (imm : Byte) (s : State) : Host.Outcome State Fault Refusal :=
  .next (writeCCR s (loByte s.m.sr ||| imm))

/-- EORI to CCR (R1001, R1019). -/
def execEoriCcr (imm : Byte) (s : State) : Host.Outcome State Fault Refusal :=
  .next (writeCCR s (loByte s.m.sr ^^^ imm))

end Sys2Proof.Machine
end

