-- ==== Sys2Proof/Machine/M68kMove.lean ====
section
/-! DEFINITION. 68000 data movement (45_m68k_data_arith.md R910 to R921, 47 R1142, R1143 apart). Every meaning is called with
PC past the instruction and `pc0` at its operation word. -/

namespace Sys2Proof.Machine

/-! ### Shared operations -/

/-- `moveflags` of a value at a size (R909). -/
def moved (s : State) (sz : Size) (v : Long) : State := setSr s (moveFlags s.m.sr sz v)

/-- MOVE: the source read, the destination written, the flags (R903, R910). -/
def moveEa (sz : Size) (src dst : Ea) (s : State) : Except Fault State := do
  let (v, s) ← loadEa s sz (firstExt s) src
  let s ← storeEa s sz (firstExt s) dst v
  return moved s sz v

/-- MOVEA: all 32 bits of An (R911). -/
def moveaEa (sz : Size) (src : Ea) (n : Fin 8) (s : State) : Except Fault State := do
  let (v, s) ← loadEa s sz (firstExt s) src
  return setAn s n (sextL sz v)

/-! ### MOVEM (R913) -/

/-- The register k of the list order: D0 to D7, then A0 to A7. -/
def getReg (s : State) (k : Nat) : Long :=
  if k < 8 then getD s (Fin.ofNat 8 k) else getAn s (Fin.ofNat 8 k)

/-- Writes the register k of the list order, all 32 bits. -/
def setReg (s : State) (k : Nat) (v : Long) : State :=
  if k < 8 then setD s (Fin.ofNat 8 k) v else setAn s (Fin.ofNat 8 k) v

/-- The numbers a mask selects in rising order, bit k for k. -/
def maskBits (mask : Word) : List Nat := (List.range 16).filter fun k => mask.getLsbD k

/-- The registers of a -(An) store in the order of their writes, k from 15 down to 0: bit i selects register 15 - i. -/
def maskDown (mask : Word) : List Nat := (maskBits mask).map fun i => 15 - i

/-- Stores the registers at rising addresses from `a`; the registers are read from `old`. -/
def storeUp (sz : Size) (old : State) (ks : List Nat) (a : Long) (s : State) : Except Fault State :=
  match ks with
  | [] => .ok s
  | k :: rest => do
    let s ← memWrite s a sz (cut sz (getReg old k))
    storeUp sz old rest (a + BitVec.ofNat 32 sz.bytes) s

/-- Stores the registers at falling addresses below `a`: the last address, and the state. -/
def storeDown (sz : Size) (old : State) (ks : List Nat) (a : Long) (s : State) : Except Fault (Long × State) :=
  match ks with
  | [] => .ok (a, s)
  | k :: rest => do
    let a := a - BitVec.ofNat 32 sz.bytes
    let s ← memWrite s a sz (cut sz (getReg old k))
    storeDown sz old rest a s

/-- Loads the registers from rising addresses from `a`, a word sign-extended: the address after the last, and the state. -/
def loadUp (sz : Size) (ks : List Nat) (a : Long) (s : State) : Except Fault (Long × State) :=
  match ks with
  | [] => .ok (a, s)
  | k :: rest => do
    let v ← memRead s a sz
    loadUp sz rest (a + BitVec.ofNat 32 sz.bytes) (setReg s k (sextL sz v))

/-! ### Meanings -/

/-- MOVE.B (R910). -/
def execMoveB (src dst : Ea) (s : State) : Host.Outcome State Fault Refusal := finish (moveEa .b src dst s)

/-- MOVE.W (R910). -/
def execMoveW (src dst : Ea) (s : State) : Host.Outcome State Fault Refusal := finish (moveEa .w src dst s)

/-- MOVE.L (R910). -/
def execMoveL (src dst : Ea) (s : State) : Host.Outcome State Fault Refusal := finish (moveEa .l src dst s)

/-- MOVEA.W (R911). -/
def execMoveaW (src : Ea) (n : Fin 8) (s : State) : Host.Outcome State Fault Refusal := finish (moveaEa .w src n s)

/-- MOVEA.L (R911). -/
def execMoveaL (src : Ea) (n : Fin 8) (s : State) : Host.Outcome State Fault Refusal := finish (moveaEa .l src n s)

/-- MOVEQ (R912). -/
def execMoveq (v : Byte) (n : Fin 8) (s : State) : Host.Outcome State Fault Refusal :=
  let r : Long := v.signExtend 32
  .next (moved (setD s n r) .l r)

/-- MOVEM to memory: the -(An) form stores downward and leaves An at the last address, a control mode stores upward
(R913). The registers stored are those before the instruction. -/
def execMovemStore (sz : Size) (mask : Word) (ea : Ea) (s : State) : Host.Outcome State Fault Refusal :=
  finish (match ea with
    | .preDec n => do
      let (a, t) ← storeDown sz s (maskDown mask) (getAn s n) s
      return setAn t n a
    | e => storeUp sz s (maskBits mask) (eaAddr s (secondExt s) e) s)

/-- MOVEM from memory: after (An)+ An is the final address, and a value loaded for An is discarded (R913). -/
def execMovemLoad (sz : Size) (mask : Word) (ea : Ea) (s : State) : Host.Outcome State Fault Refusal :=
  finish (do
    let (a, t) ← loadUp sz (maskBits mask) (eaAddr s (secondExt s) ea) s
    match ea with
    | .postInc n => return setAn t n a
    | _ => return t)

/-- The byte accesses of MOVEP, every other address from `a` up, most significant byte first (R914). -/
def movepStore (bytes : List Byte) (a : Long) (s : State) : State :=
  match bytes with
  | [] => s
  | b :: rest => movepStore rest (a + 2) (s.setBus (Bus.writeM s.bus (busAddr a) b))

/-- The byte at an address, as MOVEP reads it (R914). -/
def movepByte (s : State) (a : Long) : Byte := readM8 s.bus (busAddr a)

/-- MOVEP (R914). -/
def execMovep (o : MovepMode) (x y : Fin 8) (d : Word) (s : State) : Host.Outcome State Fault Refusal :=
  let a := getAn s y + d.signExtend 32
  let v := getD s x
  .next (match o with
    | .wToReg => setDsz s x .w ((movepByte s a ++ movepByte s (a + 2)).zeroExtend 32)
    | .lToReg => setD s x ((movepByte s a ++ movepByte s (a + 2)) ++ (movepByte s (a + 4) ++ movepByte s (a + 6)))
    | .wToMem => movepStore [v.extractLsb' 8 8, v.extractLsb' 0 8] a s
    | .lToMem => movepStore [v.extractLsb' 24 8, v.extractLsb' 16 8, v.extractLsb' 8 8, v.extractLsb' 0 8] a s)

/-- LEA (R915). -/
def execLea (ea : Ea) (n : Fin 8) (s : State) : Host.Outcome State Fault Refusal :=
  .next (setAn s n (eaAddr s (firstExt s) ea))

/-- PEA: the address is formed before the push (R916). -/
def execPea (ea : Ea) (s : State) : Host.Outcome State Fault Refusal :=
  finish (push s .l (eaAddr s (firstExt s) ea))

/-- EXG Dx,Dy (R917). -/
def execExgDD (x y : Fin 8) (s : State) : Host.Outcome State Fault Refusal :=
  .next (setD (setD s x (getD s y)) y (getD s x))

/-- EXG Ax,Ay (R917). -/
def execExgAA (x y : Fin 8) (s : State) : Host.Outcome State Fault Refusal :=
  .next (setAn (setAn s x (getAn s y)) y (getAn s x))

/-- EXG Dx,Ay (R917). -/
def execExgDA (x y : Fin 8) (s : State) : Host.Outcome State Fault Refusal :=
  .next (setAn (setD s x (getAn s y)) y (getD s x))

/-- SWAP (R918). -/
def execSwap (n : Fin 8) (s : State) : Host.Outcome State Fault Refusal :=
  let v : Long := (getD s n).extractLsb' 0 16 ++ (getD s n).extractLsb' 16 16
  .next (moved (setD s n v) .l v)

/-- EXT: W sign-extends the byte into the word, L the word into the long (R919). -/
def execExt (sz : Size) (n : Fin 8) (s : State) : Host.Outcome State Fault Refusal :=
  let v := match sz with
    | .l => sextL .w (getD s n)
    | _ => sextL .b (getD s n)
  .next (moved (setDsz s n sz v) sz v)

/-- CLR (R920). -/
def execClr (sz : Size) (ea : Ea) (s : State) : Host.Outcome State Fault Refusal :=
  finish (do
    let s ← storeEa s sz (firstExt s) ea 0
    return moved s sz 0)

/-- TST (R921). -/
def execTst (sz : Size) (ea : Ea) (s : State) : Host.Outcome State Fault Refusal :=
  finish (do
    let (v, s) ← loadEa s sz (firstExt s) ea
    return moved s sz v)

end Sys2Proof.Machine
end

