-- ==== Sys2Proof/Machine/M68kShift.lean ====
section
/-! DEFINITION. 68000 shifts and rotates (46_m68k_logic_shift_bit.md R1002, R1003, R1030 to R1037). Every meaning is called
with PC past the instruction and `pc0` at its operation word. -/

namespace Sys2Proof.Machine

/-! ### Shared operations -/

/-- The count of a register form: the field ccc with 0 meaning 8, or D[ccc] mod 64 (R1003). -/
def shiftCount (s : State) (k : ShiftCount) : Nat :=
  match k with
  | .imm q => if q = 0 then 8 else q.val
  | .reg n => (getD s n).toNat % 64

/-- The register form (R1003). -/
def shiftD (kind : ShiftKind) (dir : ShiftDir) (sz : Size) (k : ShiftCount) (n : Fin 8) (s : State) : State :=
  let r := shiftp kind dir (getD s n) (shiftCount s k) sz s.m.sr
  setSr (setDsz s n sz r.1) r.2

/-- The memory form, a word by one (R1003). -/
def shiftEa (kind : ShiftKind) (dir : ShiftDir) (ea : Ea) (s : State) : Except Fault State :=
  modifyEa s .w (firstExt s) ea fun sr v => shiftp kind dir v 1 .w sr

/-! ### Meanings -/

/-- ASL, register form (R1030). -/
def execAslReg (sz : Size) (k : ShiftCount) (n : Fin 8) (s : State) : Host.Outcome State Fault Refusal :=
  .next (shiftD .as .left sz k n s)

/-- ASL, memory form (R1030). -/
def execAslMem (ea : Ea) (s : State) : Host.Outcome State Fault Refusal := finish (shiftEa .as .left ea s)

/-- ASR, register form (R1031). -/
def execAsrReg (sz : Size) (k : ShiftCount) (n : Fin 8) (s : State) : Host.Outcome State Fault Refusal :=
  .next (shiftD .as .right sz k n s)

/-- ASR, memory form (R1031). -/
def execAsrMem (ea : Ea) (s : State) : Host.Outcome State Fault Refusal := finish (shiftEa .as .right ea s)

/-- LSL, register form (R1032). -/
def execLslReg (sz : Size) (k : ShiftCount) (n : Fin 8) (s : State) : Host.Outcome State Fault Refusal :=
  .next (shiftD .ls .left sz k n s)

/-- LSL, memory form (R1032). -/
def execLslMem (ea : Ea) (s : State) : Host.Outcome State Fault Refusal := finish (shiftEa .ls .left ea s)

/-- LSR, register form (R1033). -/
def execLsrReg (sz : Size) (k : ShiftCount) (n : Fin 8) (s : State) : Host.Outcome State Fault Refusal :=
  .next (shiftD .ls .right sz k n s)

/-- LSR, memory form (R1033). -/
def execLsrMem (ea : Ea) (s : State) : Host.Outcome State Fault Refusal := finish (shiftEa .ls .right ea s)

/-- ROL, register form (R1034). -/
def execRolReg (sz : Size) (k : ShiftCount) (n : Fin 8) (s : State) : Host.Outcome State Fault Refusal :=
  .next (shiftD .ro .left sz k n s)

/-- ROL, memory form (R1034). -/
def execRolMem (ea : Ea) (s : State) : Host.Outcome State Fault Refusal := finish (shiftEa .ro .left ea s)

/-- ROR, register form (R1035). -/
def execRorReg (sz : Size) (k : ShiftCount) (n : Fin 8) (s : State) : Host.Outcome State Fault Refusal :=
  .next (shiftD .ro .right sz k n s)

/-- ROR, memory form (R1035). -/
def execRorMem (ea : Ea) (s : State) : Host.Outcome State Fault Refusal := finish (shiftEa .ro .right ea s)

/-- ROXL, register form (R1036). -/
def execRoxlReg (sz : Size) (k : ShiftCount) (n : Fin 8) (s : State) : Host.Outcome State Fault Refusal :=
  .next (shiftD .rox .left sz k n s)

/-- ROXL, memory form (R1036). -/
def execRoxlMem (ea : Ea) (s : State) : Host.Outcome State Fault Refusal := finish (shiftEa .rox .left ea s)

/-- ROXR, register form (R1037). -/
def execRoxrReg (sz : Size) (k : ShiftCount) (n : Fin 8) (s : State) : Host.Outcome State Fault Refusal :=
  .next (shiftD .rox .right sz k n s)

/-- ROXR, memory form (R1037). -/
def execRoxrMem (ea : Ea) (s : State) : Host.Outcome State Fault Refusal := finish (shiftEa .rox .right ea s)

end Sys2Proof.Machine
end

