-- ==== Sys2Proof/Machine/M68kSystem.lean ====
section
/-! DEFINITION. 68000 status-register and USP access and processor control (46 R1020 to R1022, 47_m68k_control_system.md R1100,
R1118, R1140 to R1152). Every meaning is called with PC past the instruction and `pc0` at its operation word. -/

namespace Sys2Proof.Machine

/-! ### Shared operations -/

/-- `requireSupervisor()`: in user mode the privilege-violation exception, and nothing else (R1100). -/
def requireSupervisor (s : State) (act : Except Fault State) : Except Fault State :=
  if supervisor s then act else takeException s 0x20 s.m.pc0

/-! ### The status register -/

/-- ANDI to SR (46 R1020). -/
def execAndiSr (imm : Word) (s : State) : Host.Outcome State Fault Refusal :=
  finish (requireSupervisor s (.ok (writeSR s (s.m.sr &&& imm))))

/-- ORI to SR (46 R1021). -/
def execOriSr (imm : Word) (s : State) : Host.Outcome State Fault Refusal :=
  finish (requireSupervisor s (.ok (writeSR s (s.m.sr ||| imm))))

/-- EORI to SR (46 R1022). -/
def execEoriSr (imm : Word) (s : State) : Host.Outcome State Fault Refusal :=
  finish (requireSupervisor s (.ok (writeSR s (s.m.sr ^^^ imm))))

/-- MOVE to CCR (R1140). -/
def execMoveToCcr (ea : Ea) (s : State) : Host.Outcome State Fault Refusal :=
  finish (do
    let (v, s) ← loadEa s .w (firstExt s) ea
    return writeCCR s (v.extractLsb' 0 8))

/-- MOVE to SR (R1141). -/
def execMoveToSr (ea : Ea) (s : State) : Host.Outcome State Fault Refusal :=
  finish (requireSupervisor s (do
    let (v, s) ← loadEa s .w (firstExt s) ea
    return writeSR s (v.extractLsb' 0 16)))

/-- MOVE from SR, not privileged (R1142). -/
def execMoveFromSr (ea : Ea) (s : State) : Host.Outcome State Fault Refusal :=
  finish (storeEa s .w (firstExt s) ea (s.m.sr.zeroExtend 32))

/-- MOVE An,USP (R1143). -/
def execMoveAnUsp (n : Fin 8) (s : State) : Host.Outcome State Fault Refusal :=
  finish (requireSupervisor s (.ok (s.setM { s.m with otherSP := getAn s n })))

/-- MOVE USP,An (R1143). -/
def execMoveUspAn (n : Fin 8) (s : State) : Host.Outcome State Fault Refusal :=
  finish (requireSupervisor s (.ok (setAn s n s.m.otherSP)))

/-! ### Processor control -/

/-- RTE (R1118). -/
def execRte (s : State) : Host.Outcome State Fault Refusal := finish (requireSupervisor s (returnFromException s))

/-- STOP (R1150). -/
def execStop (imm : Word) (s : State) : Host.Outcome State Fault Refusal :=
  finish (requireSupervisor s (
    let t := writeSR s imm
    .ok (t.setM { t.m with stopped := true })))

/-- RESET: the event alone (R1151). -/
def execReset (s : State) : Host.Outcome State Fault Refusal := finish (requireSupervisor s (.ok (s.emit .resetOut)))

/-- NOP (R1152). -/
def execNopM (s : State) : Host.Outcome State Fault Refusal := .next s

end Sys2Proof.Machine
end

