-- ==== Sys2Proof/Machine/Z80Alu.lean ====
section
/-! DEFINITION. Z80 arithmetic and logic (40_z80_alu.md). Every meaning is called with PC past the instruction; its T-states
are those of the rule. -/

namespace Sys2Proof.Machine

/-! ### Shared operations -/

/-- A and F from a result and its flags. -/
def intoA (s : State) (r : Byte × Byte) : State := s.setZ (setAF s.z r.1 r.2)

/-- `ADD A` with the operand's byte (R410). -/
def aluAddA (v : Byte) (s : State) : State := intoA s (add8 (getA s.z) v false)

/-- `ADC A` with the operand's byte (R411). -/
def aluAdcA (v : Byte) (s : State) : State := intoA s (add8 (getA s.z) v (fC (getF s.z)))

/-- `SUB` with the operand's byte (R412). -/
def aluSub (v : Byte) (s : State) : State := intoA s (sub8 (getA s.z) v false)

/-- `SBC A` with the operand's byte (R413). -/
def aluSbcA (v : Byte) (s : State) : State := intoA s (sub8 (getA s.z) v (fC (getF s.z)))

/-- `AND` with the operand's byte (R414). -/
def aluAnd (v : Byte) (s : State) : State := intoA s (and8 (getA s.z) v)

/-- `XOR` with the operand's byte (R415). -/
def aluXor (v : Byte) (s : State) : State := intoA s (xor8 (getA s.z) v)

/-- `OR` with the operand's byte (R416). -/
def aluOr (v : Byte) (s : State) : State := intoA s (or8 (getA s.z) v)

/-- `CP` with the operand's byte: A unchanged (R417). -/
def aluCp (v : Byte) (s : State) : State := s.setZ (setF s.z (cp8 (getA s.z) v))

/-- An ALU operation on (ii+d), WZ at the address (R408). -/
def aluIdx (ii : IndexReg) (d : Byte) (op : Byte → State → State) (s : State) : State :=
  let s := atIndex s ii d
  op (readZ8 s s.z.wz) s

/-- An 8-bit register rewritten with its flags: INC r, DEC r (R418, R419). -/
def modifyR (r : Reg8) (op : Byte → Byte → Byte × Byte) (s : State) : State :=
  let v := op (getR s.z r) (getF s.z)
  s.setZ (setR (setF s.z v.2) r v.1)

/-- A byte of memory rewritten with its flags: INC m, DEC m (R418, R419). -/
def modifyAt (addr : Word) (op : Byte → Byte → Byte × Byte) (s : State) : State :=
  let v := op (readZ8 s addr) (getF s.z)
  (writeZ8 s addr v.1).setZ (setF s.z v.2)

/-- INC and DEC of (ii+d), WZ at the address (R418, R419). -/
def modifyIdx (ii : IndexReg) (d : Byte) (op : Byte → Byte → Byte × Byte) (s : State) : State :=
  let s := atIndex s ii d
  modifyAt s.z.wz op s

/-- HL and F from a 16-bit sum, WZ the old HL plus 1 (R425 to R427). -/
def intoHl (s : State) (r : Word × Byte) : State :=
  s.setZ { setF s.z r.2 with wz := s.z.hl + 1, hl := r.1 }

/-- `ADD ii,pp` (R428). -/
def addII (ii : IndexReg) (p : Rpi) (s : State) : State :=
  let r := add16 (getII s.z ii) (getPp s.z ii p) (getF s.z)
  s.setZ (setII (setWZ (setF s.z r.2) (getII s.z ii + 1)) ii r.1)

/-! ### 8-bit arithmetic and logic -/

/-- ADD A,r (R410). -/
def execAddAR (r : Reg8) (s : State) : Host.Outcome State Fault Refusal :=
  zDone 4 (aluAddA (getR s.z r) s)

/-- ADD A,(HL) (R410). -/
def execAddAHlInd (s : State) : Host.Outcome State Fault Refusal :=
  zDone 7 (aluAddA (readZ8 s s.z.hl) s)

/-- ADD A,n (R410). -/
def execAddAN (n : Byte) (s : State) : Host.Outcome State Fault Refusal :=
  zDone 7 (aluAddA n s)

/-- ADD A,(IX+d) (R410). -/
def execAddAIxd (d : Byte) (s : State) : Host.Outcome State Fault Refusal :=
  zDone 19 (aluIdx .ix d aluAddA s)

/-- ADD A,(IY+d) (R410). -/
def execAddAIyd (d : Byte) (s : State) : Host.Outcome State Fault Refusal :=
  zDone 19 (aluIdx .iy d aluAddA s)

/-- ADC A,r (R411). -/
def execAdcAR (r : Reg8) (s : State) : Host.Outcome State Fault Refusal :=
  zDone 4 (aluAdcA (getR s.z r) s)

/-- ADC A,(HL) (R411). -/
def execAdcAHlInd (s : State) : Host.Outcome State Fault Refusal :=
  zDone 7 (aluAdcA (readZ8 s s.z.hl) s)

/-- ADC A,n (R411). -/
def execAdcAN (n : Byte) (s : State) : Host.Outcome State Fault Refusal :=
  zDone 7 (aluAdcA n s)

/-- ADC A,(IX+d) (R411). -/
def execAdcAIxd (d : Byte) (s : State) : Host.Outcome State Fault Refusal :=
  zDone 19 (aluIdx .ix d aluAdcA s)

/-- ADC A,(IY+d) (R411). -/
def execAdcAIyd (d : Byte) (s : State) : Host.Outcome State Fault Refusal :=
  zDone 19 (aluIdx .iy d aluAdcA s)

/-- SUB r (R412). -/
def execSubR (r : Reg8) (s : State) : Host.Outcome State Fault Refusal :=
  zDone 4 (aluSub (getR s.z r) s)

/-- SUB (HL) (R412). -/
def execSubHlInd (s : State) : Host.Outcome State Fault Refusal :=
  zDone 7 (aluSub (readZ8 s s.z.hl) s)

/-- SUB n (R412). -/
def execSubN (n : Byte) (s : State) : Host.Outcome State Fault Refusal :=
  zDone 7 (aluSub n s)

/-- SUB (IX+d) (R412). -/
def execSubIxd (d : Byte) (s : State) : Host.Outcome State Fault Refusal :=
  zDone 19 (aluIdx .ix d aluSub s)

/-- SUB (IY+d) (R412). -/
def execSubIyd (d : Byte) (s : State) : Host.Outcome State Fault Refusal :=
  zDone 19 (aluIdx .iy d aluSub s)

/-- SBC A,r (R413). -/
def execSbcAR (r : Reg8) (s : State) : Host.Outcome State Fault Refusal :=
  zDone 4 (aluSbcA (getR s.z r) s)

/-- SBC A,(HL) (R413). -/
def execSbcAHlInd (s : State) : Host.Outcome State Fault Refusal :=
  zDone 7 (aluSbcA (readZ8 s s.z.hl) s)

/-- SBC A,n (R413). -/
def execSbcAN (n : Byte) (s : State) : Host.Outcome State Fault Refusal :=
  zDone 7 (aluSbcA n s)

/-- SBC A,(IX+d) (R413). -/
def execSbcAIxd (d : Byte) (s : State) : Host.Outcome State Fault Refusal :=
  zDone 19 (aluIdx .ix d aluSbcA s)

/-- SBC A,(IY+d) (R413). -/
def execSbcAIyd (d : Byte) (s : State) : Host.Outcome State Fault Refusal :=
  zDone 19 (aluIdx .iy d aluSbcA s)

/-- AND r (R414). -/
def execAndR (r : Reg8) (s : State) : Host.Outcome State Fault Refusal :=
  zDone 4 (aluAnd (getR s.z r) s)

/-- AND (HL) (R414). -/
def execAndHlInd (s : State) : Host.Outcome State Fault Refusal :=
  zDone 7 (aluAnd (readZ8 s s.z.hl) s)

/-- AND n (R414). -/
def execAndN (n : Byte) (s : State) : Host.Outcome State Fault Refusal :=
  zDone 7 (aluAnd n s)

/-- AND (IX+d) (R414). -/
def execAndIxd (d : Byte) (s : State) : Host.Outcome State Fault Refusal :=
  zDone 19 (aluIdx .ix d aluAnd s)

/-- AND (IY+d) (R414). -/
def execAndIyd (d : Byte) (s : State) : Host.Outcome State Fault Refusal :=
  zDone 19 (aluIdx .iy d aluAnd s)

/-- XOR r (R415). -/
def execXorR (r : Reg8) (s : State) : Host.Outcome State Fault Refusal :=
  zDone 4 (aluXor (getR s.z r) s)

/-- XOR (HL) (R415). -/
def execXorHlInd (s : State) : Host.Outcome State Fault Refusal :=
  zDone 7 (aluXor (readZ8 s s.z.hl) s)

/-- XOR n (R415). -/
def execXorN (n : Byte) (s : State) : Host.Outcome State Fault Refusal :=
  zDone 7 (aluXor n s)

/-- XOR (IX+d) (R415). -/
def execXorIxd (d : Byte) (s : State) : Host.Outcome State Fault Refusal :=
  zDone 19 (aluIdx .ix d aluXor s)

/-- XOR (IY+d) (R415). -/
def execXorIyd (d : Byte) (s : State) : Host.Outcome State Fault Refusal :=
  zDone 19 (aluIdx .iy d aluXor s)

/-- OR r (R416). -/
def execOrR (r : Reg8) (s : State) : Host.Outcome State Fault Refusal :=
  zDone 4 (aluOr (getR s.z r) s)

/-- OR (HL) (R416). -/
def execOrHlInd (s : State) : Host.Outcome State Fault Refusal :=
  zDone 7 (aluOr (readZ8 s s.z.hl) s)

/-- OR n (R416). -/
def execOrN (n : Byte) (s : State) : Host.Outcome State Fault Refusal :=
  zDone 7 (aluOr n s)

/-- OR (IX+d) (R416). -/
def execOrIxd (d : Byte) (s : State) : Host.Outcome State Fault Refusal :=
  zDone 19 (aluIdx .ix d aluOr s)

/-- OR (IY+d) (R416). -/
def execOrIyd (d : Byte) (s : State) : Host.Outcome State Fault Refusal :=
  zDone 19 (aluIdx .iy d aluOr s)

/-- CP r (R417). -/
def execCpR (r : Reg8) (s : State) : Host.Outcome State Fault Refusal :=
  zDone 4 (aluCp (getR s.z r) s)

/-- CP (HL) (R417). -/
def execCpHlInd (s : State) : Host.Outcome State Fault Refusal :=
  zDone 7 (aluCp (readZ8 s s.z.hl) s)

/-- CP n (R417). -/
def execCpN (n : Byte) (s : State) : Host.Outcome State Fault Refusal :=
  zDone 7 (aluCp n s)

/-- CP (IX+d) (R417). -/
def execCpIxd (d : Byte) (s : State) : Host.Outcome State Fault Refusal :=
  zDone 19 (aluIdx .ix d aluCp s)

/-- CP (IY+d) (R417). -/
def execCpIyd (d : Byte) (s : State) : Host.Outcome State Fault Refusal :=
  zDone 19 (aluIdx .iy d aluCp s)

/-- INC r (R418). -/
def execIncR (r : Reg8) (s : State) : Host.Outcome State Fault Refusal :=
  zDone 4 (modifyR r inc8 s)

/-- INC (HL) (R418). -/
def execIncHlInd (s : State) : Host.Outcome State Fault Refusal :=
  zDone 11 (modifyAt s.z.hl inc8 s)

/-- INC (IX+d) (R418). -/
def execIncIxd (d : Byte) (s : State) : Host.Outcome State Fault Refusal :=
  zDone 23 (modifyIdx .ix d inc8 s)

/-- INC (IY+d) (R418). -/
def execIncIyd (d : Byte) (s : State) : Host.Outcome State Fault Refusal :=
  zDone 23 (modifyIdx .iy d inc8 s)

/-- DEC r (R419). -/
def execDecR (r : Reg8) (s : State) : Host.Outcome State Fault Refusal :=
  zDone 4 (modifyR r dec8 s)

/-- DEC (HL) (R419). -/
def execDecHlInd (s : State) : Host.Outcome State Fault Refusal :=
  zDone 11 (modifyAt s.z.hl dec8 s)

/-- DEC (IX+d) (R419). -/
def execDecIxd (d : Byte) (s : State) : Host.Outcome State Fault Refusal :=
  zDone 23 (modifyIdx .ix d dec8 s)

/-- DEC (IY+d) (R419). -/
def execDecIyd (d : Byte) (s : State) : Host.Outcome State Fault Refusal :=
  zDone 23 (modifyIdx .iy d dec8 s)

/-- DAA (R420). -/
def execDaa (s : State) : Host.Outcome State Fault Refusal :=
  zDone 4 (intoA s (daa8 (getA s.z) (getF s.z)))

/-- CPL (R421). -/
def execCpl (s : State) : Host.Outcome State Fault Refusal :=
  let r := ~~~ (getA s.z)
  zDone 4 (intoA s (r, flagsKeep (getF s.z) r true true (fC (getF s.z))))

/-- NEG (R422). -/
def execNeg (s : State) : Host.Outcome State Fault Refusal :=
  zDone 8 (intoA s (sub8 0 (getA s.z) false))

/-- SCF (R423). -/
def execScf (s : State) : Host.Outcome State Fault Refusal :=
  zDone 4 (s.setZ (setF s.z (flagsKeep (getF s.z) (getA s.z) false false true)))

/-- CCF: H is the old C (R424). -/
def execCcf (s : State) : Host.Outcome State Fault Refusal :=
  let c := fC (getF s.z)
  zDone 4 (s.setZ (setF s.z (flagsKeep (getF s.z) (getA s.z) c false (!c))))

/-! ### 16-bit arithmetic -/

/-- ADD HL,ss (R425). -/
def execAddHlRp (p : Rp) (s : State) : Host.Outcome State Fault Refusal :=
  zDone 11 (intoHl s (add16 s.z.hl (getRp s.z p) (getF s.z)))

/-- ADC HL,ss (R426). -/
def execAdcHlRp (p : Rp) (s : State) : Host.Outcome State Fault Refusal :=
  zDone 15 (intoHl s (adc16 s.z.hl (getRp s.z p) (fC (getF s.z))))

/-- SBC HL,ss (R427). -/
def execSbcHlRp (p : Rp) (s : State) : Host.Outcome State Fault Refusal :=
  zDone 15 (intoHl s (sbc16 s.z.hl (getRp s.z p) (fC (getF s.z))))

/-- ADD IX,pp (R428). -/
def execAddIxPp (p : Rpi) (s : State) : Host.Outcome State Fault Refusal :=
  zDone 15 (addII .ix p s)

/-- ADD IY,pp (R428). -/
def execAddIyPp (p : Rpi) (s : State) : Host.Outcome State Fault Refusal :=
  zDone 15 (addII .iy p s)

/-- INC ss (R429). -/
def execIncRp (p : Rp) (s : State) : Host.Outcome State Fault Refusal :=
  zDone 6 (s.setZ (setRp s.z p (getRp s.z p + 1)))

/-- DEC ss (R430). -/
def execDecRp (p : Rp) (s : State) : Host.Outcome State Fault Refusal :=
  zDone 6 (s.setZ (setRp s.z p (getRp s.z p - 1)))

/-- INC IX (R429). -/
def execIncIx (s : State) : Host.Outcome State Fault Refusal :=
  zDone 10 (s.setZ (setII s.z .ix (getII s.z .ix + 1)))

/-- DEC IX (R430). -/
def execDecIx (s : State) : Host.Outcome State Fault Refusal :=
  zDone 10 (s.setZ (setII s.z .ix (getII s.z .ix - 1)))

/-- INC IY (R429). -/
def execIncIy (s : State) : Host.Outcome State Fault Refusal :=
  zDone 10 (s.setZ (setII s.z .iy (getII s.z .iy + 1)))

/-- DEC IY (R430). -/
def execDecIy (s : State) : Host.Outcome State Fault Refusal :=
  zDone 10 (s.setZ (setII s.z .iy (getII s.z .iy - 1)))

end Sys2Proof.Machine
end

