-- ==== Sys2Proof/Machine/Z80Block.lean ====
section
/-! DEFINITION. Z80 block transfer, block compare, block I/O and port I/O (42_z80_block_io.md). Every meaning is called with
PC past the instruction; its T-states are those of the rule. -/

namespace Sys2Proof.Machine

/-! ### One-step primitives (R600 to R606) -/

/-- The direction of a block instruction: +1 for the I forms, -1 for the D forms (R600). -/
inductive BlockDir | up | down
deriving DecidableEq, Repr

/-- `delta` as a 16-bit addend (R600). -/
def BlockDir.delta (k : BlockDir) : Word :=
  match k with
  | .up => 1
  | .down => 0xFFFF

/-- `ldStep(delta)` (R603). -/
def ldStep (k : BlockDir) (s : State) : State :=
  let v := readZ8 s s.z.hl
  let s := writeZ8 s s.z.de v
  let bc := s.z.bc - 1
  let f := ldBlockF (getA s.z) v (bc != 0) (getF s.z)
  s.setZ { setF s.z f with hl := s.z.hl + k.delta, de := s.z.de + k.delta, bc := bc }

/-- `cpStep(delta)` (R604). -/
def cpStep (k : BlockDir) (s : State) : State :=
  let v := readZ8 s s.z.hl
  let bc := s.z.bc - 1
  let f := cpBlockF (getA s.z) v (bc != 0) (getF s.z)
  s.setZ { setF s.z f with hl := s.z.hl + k.delta, bc := bc, wz := s.z.wz + k.delta }

/-- `inStep(delta)`: the port has B before the decrement (R605). -/
def inStep (k : BlockDir) (s : State) : State :=
  let (v, s) := ioRead s s.z.bc
  let s := writeZ8 s s.z.hl v
  let b := hiByte s.z.bc - 1
  let c := loByte s.z.bc
  let f := ioBlockF b v (v.toNat + (c + loByte k.delta).toNat)
  s.setZ { setF s.z f with wz := s.z.bc + k.delta, bc := pairOf b c, hl := s.z.hl + k.delta }

/-- `outStep(delta)`: the port has B after the decrement (R606). -/
def outStep (k : BlockDir) (s : State) : State :=
  let v := readZ8 s s.z.hl
  let bc := withHi s.z.bc (hiByte s.z.bc - 1)
  let hl := s.z.hl + k.delta
  let s := ioWrite s bc v
  let f := ioBlockF (hiByte bc) v (v.toNat + (loByte hl).toNat)
  s.setZ { setF s.z f with bc := bc, hl := hl, wz := bc + k.delta }

/-- The repeat check: PC back to the instruction, WZ one past it, 21 T, while it repeats; else 16 T (R602). -/
def repeatWhile (more : Bool) (s : State) : Host.Outcome State Fault Refusal :=
  if more then
    let pc := s.z.pc - 2
    zDone 21 (s.setZ { s.z with pc := pc, wz := pc + 1 })
  else zDone 16 s

/-- The counter BC is not 0 (R601). -/
def bcLeft (s : State) : Bool := s.z.bc != 0

/-- The counter B is not 0 (R601). -/
def bLeft (s : State) : Bool := hiByte s.z.bc != 0

/-- A compare goes on: BC is not 0 and the bytes did not match (R602, R604). -/
def cpLeft (s : State) : Bool := bcLeft s && !fZ (getF s.z)

/-! ### Block instructions -/

/-- LDI (R610). -/
def execLdi (s : State) : Host.Outcome State Fault Refusal :=
  zDone 16 (ldStep .up s)

/-- LDD (R611). -/
def execLdd (s : State) : Host.Outcome State Fault Refusal :=
  zDone 16 (ldStep .down s)

/-- LDIR (R612). -/
def execLdir (s : State) : Host.Outcome State Fault Refusal :=
  let s := ldStep .up s
  repeatWhile (bcLeft s) s

/-- LDDR (R613). -/
def execLddr (s : State) : Host.Outcome State Fault Refusal :=
  let s := ldStep .down s
  repeatWhile (bcLeft s) s

/-- CPI (R614). -/
def execCpi (s : State) : Host.Outcome State Fault Refusal :=
  zDone 16 (cpStep .up s)

/-- CPD (R615). -/
def execCpd (s : State) : Host.Outcome State Fault Refusal :=
  zDone 16 (cpStep .down s)

/-- CPIR (R616). -/
def execCpir (s : State) : Host.Outcome State Fault Refusal :=
  let s := cpStep .up s
  repeatWhile (cpLeft s) s

/-- CPDR (R617). -/
def execCpdr (s : State) : Host.Outcome State Fault Refusal :=
  let s := cpStep .down s
  repeatWhile (cpLeft s) s

/-- INI (R618). -/
def execIni (s : State) : Host.Outcome State Fault Refusal :=
  zDone 16 (inStep .up s)

/-- IND (R619). -/
def execInd (s : State) : Host.Outcome State Fault Refusal :=
  zDone 16 (inStep .down s)

/-- INIR (R620). -/
def execInir (s : State) : Host.Outcome State Fault Refusal :=
  let s := inStep .up s
  repeatWhile (bLeft s) s

/-- INDR (R621). -/
def execIndr (s : State) : Host.Outcome State Fault Refusal :=
  let s := inStep .down s
  repeatWhile (bLeft s) s

/-- OUTI (R622). -/
def execOuti (s : State) : Host.Outcome State Fault Refusal :=
  zDone 16 (outStep .up s)

/-- OUTD (R623). -/
def execOutd (s : State) : Host.Outcome State Fault Refusal :=
  zDone 16 (outStep .down s)

/-- OTIR (R624). -/
def execOtir (s : State) : Host.Outcome State Fault Refusal :=
  let s := outStep .up s
  repeatWhile (bLeft s) s

/-- OTDR (R625). -/
def execOtdr (s : State) : Host.Outcome State Fault Refusal :=
  let s := outStep .down s
  repeatWhile (bLeft s) s

/-! ### Single port I/O -/

/-- IN A,(n): the port's high byte is the old A (R630). -/
def execInAN (n : Byte) (s : State) : Host.Outcome State Fault Refusal :=
  let port := pairOf (getA s.z) n
  let (v, s) := ioRead s port
  zDone 11 (s.setZ (setWZ (setR s.z .a v) (port + 1)))

/-- IN r,(C) (R631). -/
def execInRC (r : Reg8) (s : State) : Host.Outcome State Fault Refusal :=
  let port := s.z.bc
  let (v, s) := ioRead s port
  let z := setR (setF s.z (flagsIn v (parity v) (getF s.z))) r v
  zDone 12 (s.setZ (setWZ z (z.bc + 1)))

/-- OUT (n),A (R632). -/
def execOutNA (n : Byte) (s : State) : Host.Outcome State Fault Refusal :=
  let a := getA s.z
  zDone 11 ((ioWrite s (pairOf a n) a).setZ (setWZ s.z (pairOf a (n + 1))))

/-- OUT (C),r (R633). -/
def execOutCR (r : Reg8) (s : State) : Host.Outcome State Fault Refusal :=
  zDone 12 ((ioWrite s s.z.bc (getR s.z r)).setZ (setWZ s.z (s.z.bc + 1)))

end Sys2Proof.Machine
end

