-- ==== Sys2Proof/Machine/Z80Control.lean ====
section
/-! DEFINITION. Z80 jumps, calls, returns and restarts (43_z80_control.md). Every meaning is called with PC past the
instruction; its T-states are those of the rule. WZ is written whether or not a transfer is taken (R702). -/

namespace Sys2Proof.Machine

/-! ### Shared operations -/

/-- A jump, taken or not (R702). -/
def jumpIf (taken : Bool) (target : Word) (s : State) : State :=
  s.setZ { s.z with wz := target, pc := if taken then target else s.z.pc }

/-- The target of a relative jump (R712; 30_encoding.md R263). -/
def relTarget (s : State) (e : Byte) : Word := s.z.pc + sext8 e

/-- A call that is taken (R716). -/
def callTo (target : Word) (s : State) : State := jumpIf true target (push16 s s.z.pc)

/-- A return that is taken (R718). -/
def returnZ (s : State) : State :=
  let (t, s) := pop16 s
  jumpIf true t s

/-- RETN and RETI: the return, with IFF1 from IFF2 (R720, R721). -/
def returnIff (s : State) : State :=
  let s := returnZ s
  s.setZ { s.z with iff1 := s.z.iff2 }

/-! ### Jumps -/

/-- JP nn (R710). -/
def execJpNn (nn : Word) (s : State) : Host.Outcome State Fault Refusal :=
  zDone 10 (jumpIf true nn s)

/-- JP cc,nn (R711). -/
def execJpCcNn (cond : Cond8) (nn : Word) (s : State) : Host.Outcome State Fault Refusal :=
  zDone 10 (jumpIf (cond8 cond (getF s.z)) nn s)

/-- JR e (R712). -/
def execJr (e : Byte) (s : State) : Host.Outcome State Fault Refusal :=
  zDone 12 (jumpIf true (relTarget s e) s)

/-- JR cc,e (R713). -/
def execJrCc (cond : JrCond) (e : Byte) (s : State) : Host.Outcome State Fault Refusal :=
  let taken := jrCond cond (getF s.z)
  zDone (if taken then 12 else 7) (jumpIf taken (relTarget s e) s)

/-- DJNZ e (R714). -/
def execDjnz (e : Byte) (s : State) : Host.Outcome State Fault Refusal :=
  let b := hiByte s.z.bc - 1
  let s := s.setZ { s.z with bc := withHi s.z.bc b }
  zDone (if b != 0 then 13 else 8) (jumpIf (b != 0) (relTarget s e) s)

/-- JP (HL): WZ is not written (R715). -/
def execJpHl (s : State) : Host.Outcome State Fault Refusal :=
  zDone 4 (s.setZ (setPC s.z s.z.hl))

/-- JP (IX): WZ is not written (R715). -/
def execJpIx (s : State) : Host.Outcome State Fault Refusal :=
  zDone 8 (s.setZ (setPC s.z s.z.ix))

/-- JP (IY): WZ is not written (R715). -/
def execJpIy (s : State) : Host.Outcome State Fault Refusal :=
  zDone 8 (s.setZ (setPC s.z s.z.iy))

/-! ### Calls and returns -/

/-- CALL nn (R716). -/
def execCallNn (nn : Word) (s : State) : Host.Outcome State Fault Refusal :=
  zDone 17 (callTo nn s)

/-- CALL cc,nn (R717). -/
def execCallCcNn (cond : Cond8) (nn : Word) (s : State) : Host.Outcome State Fault Refusal :=
  if cond8 cond (getF s.z) then zDone 17 (callTo nn s) else zDone 10 (jumpIf false nn s)

/-- RET (R718). -/
def execRet (s : State) : Host.Outcome State Fault Refusal :=
  zDone 10 (returnZ s)

/-- RET cc: WZ takes the word at SP even when untaken (R719). -/
def execRetCc (cond : Cond8) (s : State) : Host.Outcome State Fault Refusal :=
  if cond8 cond (getF s.z) then zDone 11 (returnZ s) else zDone 5 (jumpIf false (readZ16 s s.z.sp) s)

/-- RETI (R720). -/
def execReti (s : State) : Host.Outcome State Fault Refusal :=
  zDone 14 (returnIff s)

/-- RETN (R721). -/
def execRetn (s : State) : Host.Outcome State Fault Refusal :=
  zDone 14 (returnIff s)

/-- RST y*8 (R722). -/
def execRst (y : Fin 8) (s : State) : Host.Outcome State Fault Refusal :=
  zDone 11 (callTo (BitVec.ofNat 16 (y.val * 8)) s)

end Sys2Proof.Machine
end

