-- ==== Sys2Proof/Machine/Z80Load.lean ====
section
/-! DEFINITION. Z80 loads, stack, exchanges and CPU control (44_z80_load_misc.md). Every meaning is called with PC past the
instruction; its T-states are those of the rule. -/

namespace Sys2Proof.Machine

/-! ### Shared operations -/

/-- `r <- v` (R800). -/
def loadR (s : State) (r : Reg8) (v : Byte) : State := s.setZ (setR s.z r v)

/-- WZ after `LD (rp),A` and `LD (nn),A`: A above the low byte of the address plus 1 (R819, R821). -/
def wzAfterStore (a : Byte) (addr : Word) : Word := pairOf a (loByte addr + 1)

/-- A stored at an address (R819, R821). -/
def storeA (s : State) (addr : Word) : State :=
  let s := writeZ8 s addr (getA s.z)
  s.setZ (setWZ s.z (wzAfterStore (getA s.z) addr))

/-- A loaded from an address (R818, R820). -/
def loadA (s : State) (addr : Word) : State :=
  let s := loadR s .a (readZ8 s addr)
  s.setZ (setWZ s.z (addr + 1))

/-- The pair of LD A,(rp) and LD (rp),A. -/
def getBcDe (z : Z80) (p : BcDe) : Word :=
  match p with
  | .bc => z.bc
  | .de => z.de

/-- A 16-bit value stored at nn, WZ after it (R824). -/
def storeNn (s : State) (nn v : Word) : State :=
  let s := writeZ16 s nn v
  s.setZ (setWZ s.z (nn + 1))

/-- `r[y] <- (ii+d)` (R815). -/
def loadRIdx (ii : IndexReg) (r : Reg8) (d : Byte) (s : State) : State :=
  let s := atIndex s ii d
  loadR s r (readZ8 s s.z.wz)

/-- `(ii+d) <- r[z]` (R816). -/
def storeRIdx (ii : IndexReg) (d : Byte) (r : Reg8) (s : State) : State :=
  let s := atIndex s ii d
  writeZ8 s s.z.wz (getR s.z r)

/-- `(ii+d) <- n` (R817). -/
def storeNIdx (ii : IndexReg) (d n : Byte) (s : State) : State :=
  let s := atIndex s ii d
  writeZ8 s s.z.wz n

/-- `ii <- (nn)` (R823). -/
def loadIIMem (ii : IndexReg) (nn : Word) (s : State) : State :=
  s.setZ (setWZ (setII s.z ii (readZ16 s nn)) (nn + 1))

/-- `rp[p] <- (nn)` (R823). -/
def loadRpMem (p : Rp) (nn : Word) (s : State) : State :=
  s.setZ (setWZ (setRp s.z p (readZ16 s nn)) (nn + 1))

/-- POP into IX or IY (R827). -/
def popII (ii : IndexReg) (s : State) : State :=
  let (v, s) := pop16 s
  s.setZ (setII s.z ii v)

/-- The exchange of the word at SP with `v`: the old word, and the state with `v` at SP and WZ the old word (R831). -/
def exchangeSp (s : State) (v : Word) : Word × State :=
  let t := readZ16 s s.z.sp
  let s := writeZ16 s s.z.sp v
  (t, s.setZ (setWZ s.z t))

/-- EX (SP),ii (R831). -/
def exSpII (ii : IndexReg) (s : State) : State :=
  let (t, s) := exchangeSp s (getII s.z ii)
  s.setZ (setII s.z ii t)

/-- A from I or R with their flags, P/V from IFF2 (R832, R833). -/
def loadAFrom (s : State) (v : Byte) : State := s.setZ (setAF s.z v (flagsIn v s.z.iff2 (getF s.z)))

/-- `IM n` (R840). -/
def setIm (s : State) (im : IntMode) : State := s.setZ { s.z with im := im }

/-! ### 8-bit loads -/

/-- LD r,r' (R810). -/
def execLdRR (r : Reg8) (r' : Reg8) (s : State) : Host.Outcome State Fault Refusal :=
  zDone 4 (loadR s r (getR s.z r'))

/-- LD r,n (R811). -/
def execLdRN (r : Reg8) (n : Byte) (s : State) : Host.Outcome State Fault Refusal :=
  zDone 7 (loadR s r n)

/-- LD r,(HL) (R812). -/
def execLdRHlInd (r : Reg8) (s : State) : Host.Outcome State Fault Refusal :=
  zDone 7 (loadR s r (readZ8 s s.z.hl))

/-- LD (HL),r (R813). -/
def execLdHlIndR (r : Reg8) (s : State) : Host.Outcome State Fault Refusal :=
  zDone 7 (writeZ8 s s.z.hl (getR s.z r))

/-- LD (HL),n (R814). -/
def execLdHlIndN (n : Byte) (s : State) : Host.Outcome State Fault Refusal :=
  zDone 10 (writeZ8 s s.z.hl n)

/-- LD r,(IX+d) (R815). -/
def execLdRIxd (r : Reg8) (d : Byte) (s : State) : Host.Outcome State Fault Refusal :=
  zDone 19 (loadRIdx .ix r d s)

/-- LD (IX+d),r (R816). -/
def execLdIxdR (d : Byte) (r : Reg8) (s : State) : Host.Outcome State Fault Refusal :=
  zDone 19 (storeRIdx .ix d r s)

/-- LD (IX+d),n (R817). -/
def execLdIxdN (d : Byte) (n : Byte) (s : State) : Host.Outcome State Fault Refusal :=
  zDone 19 (storeNIdx .ix d n s)

/-- LD r,(IY+d) (R815). -/
def execLdRIyd (r : Reg8) (d : Byte) (s : State) : Host.Outcome State Fault Refusal :=
  zDone 19 (loadRIdx .iy r d s)

/-- LD (IY+d),r (R816). -/
def execLdIydR (d : Byte) (r : Reg8) (s : State) : Host.Outcome State Fault Refusal :=
  zDone 19 (storeRIdx .iy d r s)

/-- LD (IY+d),n (R817). -/
def execLdIydN (d : Byte) (n : Byte) (s : State) : Host.Outcome State Fault Refusal :=
  zDone 19 (storeNIdx .iy d n s)

/-- LD A,(BC) and LD A,(DE) (R818). -/
def execLdAInd (p : BcDe) (s : State) : Host.Outcome State Fault Refusal :=
  zDone 7 (loadA s (getBcDe s.z p))

/-- LD (BC),A and LD (DE),A (R819). -/
def execLdIndA (p : BcDe) (s : State) : Host.Outcome State Fault Refusal :=
  zDone 7 (storeA s (getBcDe s.z p))

/-- LD A,(nn) (R820). -/
def execLdAMem (nn : Word) (s : State) : Host.Outcome State Fault Refusal :=
  zDone 13 (loadA s nn)

/-- LD (nn),A (R821). -/
def execLdMemA (nn : Word) (s : State) : Host.Outcome State Fault Refusal :=
  zDone 13 (storeA s nn)

/-! ### 16-bit loads -/

/-- LD dd,nn (R822). -/
def execLdRpNn (p : Rp) (nn : Word) (s : State) : Host.Outcome State Fault Refusal :=
  zDone 10 (s.setZ (setRp s.z p nn))

/-- LD HL,(nn), the 3-byte form (R823). -/
def execLdHlMem (nn : Word) (s : State) : Host.Outcome State Fault Refusal :=
  zDone 16 (loadRpMem .hl nn s)

/-- LD dd,(nn), the ED form (R823). -/
def execLdRpMem (p : Rp) (nn : Word) (s : State) : Host.Outcome State Fault Refusal :=
  zDone 20 (loadRpMem p nn s)

/-- LD (nn),HL, the 3-byte form (R824). -/
def execLdMemHl (nn : Word) (s : State) : Host.Outcome State Fault Refusal :=
  zDone 16 (storeNn s nn s.z.hl)

/-- LD (nn),dd, the ED form (R824). -/
def execLdMemRp (p : Rp) (nn : Word) (s : State) : Host.Outcome State Fault Refusal :=
  zDone 20 (storeNn s nn (getRp s.z p))

/-- LD SP,HL (R825). -/
def execLdSpHl (s : State) : Host.Outcome State Fault Refusal :=
  zDone 6 (s.setZ { s.z with sp := s.z.hl })

/-- PUSH qq (R826). -/
def execPushRp2 (p : Rp2) (s : State) : Host.Outcome State Fault Refusal :=
  zDone 11 (push16 s (getRp2 s.z p))

/-- POP qq (R827). -/
def execPopRp2 (p : Rp2) (s : State) : Host.Outcome State Fault Refusal :=
  let (v, s) := pop16 s
  zDone 10 (s.setZ (setRp2 s.z p v))

/-- LD IX,nn (R822). -/
def execLdIxNn (nn : Word) (s : State) : Host.Outcome State Fault Refusal :=
  zDone 14 (s.setZ (setII s.z .ix nn))

/-- LD IX,(nn) (R823). -/
def execLdIxMem (nn : Word) (s : State) : Host.Outcome State Fault Refusal :=
  zDone 20 (loadIIMem .ix nn s)

/-- LD (nn),IX (R824). -/
def execLdMemIx (nn : Word) (s : State) : Host.Outcome State Fault Refusal :=
  zDone 20 (storeNn s nn (getII s.z .ix))

/-- LD SP,IX (R825). -/
def execLdSpIx (s : State) : Host.Outcome State Fault Refusal :=
  zDone 10 (s.setZ { s.z with sp := getII s.z .ix })

/-- PUSH IX (R826). -/
def execPushIx (s : State) : Host.Outcome State Fault Refusal :=
  zDone 15 (push16 s (getII s.z .ix))

/-- POP IX (R827). -/
def execPopIx (s : State) : Host.Outcome State Fault Refusal :=
  zDone 14 (popII .ix s)

/-- LD IY,nn (R822). -/
def execLdIyNn (nn : Word) (s : State) : Host.Outcome State Fault Refusal :=
  zDone 14 (s.setZ (setII s.z .iy nn))

/-- LD IY,(nn) (R823). -/
def execLdIyMem (nn : Word) (s : State) : Host.Outcome State Fault Refusal :=
  zDone 20 (loadIIMem .iy nn s)

/-- LD (nn),IY (R824). -/
def execLdMemIy (nn : Word) (s : State) : Host.Outcome State Fault Refusal :=
  zDone 20 (storeNn s nn (getII s.z .iy))

/-- LD SP,IY (R825). -/
def execLdSpIy (s : State) : Host.Outcome State Fault Refusal :=
  zDone 10 (s.setZ { s.z with sp := getII s.z .iy })

/-- PUSH IY (R826). -/
def execPushIy (s : State) : Host.Outcome State Fault Refusal :=
  zDone 15 (push16 s (getII s.z .iy))

/-- POP IY (R827). -/
def execPopIy (s : State) : Host.Outcome State Fault Refusal :=
  zDone 14 (popII .iy s)

/-! ### Exchanges -/

/-- EX DE,HL (R828). -/
def execExDeHl (s : State) : Host.Outcome State Fault Refusal :=
  zDone 4 (s.setZ { s.z with de := s.z.hl, hl := s.z.de })

/-- EX AF,AF' (R829). -/
def execExAfAf (s : State) : Host.Outcome State Fault Refusal :=
  zDone 4 (s.setZ { s.z with af := s.z.afAlt, afAlt := s.z.af })

/-- EXX (R830). -/
def execExx (s : State) : Host.Outcome State Fault Refusal :=
  zDone 4 (s.setZ { s.z with
    bc := s.z.bcAlt, bcAlt := s.z.bc, de := s.z.deAlt, deAlt := s.z.de, hl := s.z.hlAlt, hlAlt := s.z.hl })

/-- EX (SP),HL (R831). -/
def execExSpHl (s : State) : Host.Outcome State Fault Refusal :=
  let (t, s) := exchangeSp s s.z.hl
  zDone 19 (s.setZ { s.z with hl := t })

/-- EX (SP),IX (R831). -/
def execExSpIx (s : State) : Host.Outcome State Fault Refusal :=
  zDone 23 (exSpII .ix s)

/-- EX (SP),IY (R831). -/
def execExSpIy (s : State) : Host.Outcome State Fault Refusal :=
  zDone 23 (exSpII .iy s)

/-! ### Special registers and CPU control -/

/-- LD A,I (R832). -/
def execLdAI (s : State) : Host.Outcome State Fault Refusal :=
  zDone 9 (loadAFrom s s.z.i)

/-- LD A,R, after the fetches of this instruction have counted R (R833). -/
def execLdAR (s : State) : Host.Outcome State Fault Refusal :=
  zDone 9 (loadAFrom s s.z.r)

/-- LD I,A (R834). -/
def execLdIA (s : State) : Host.Outcome State Fault Refusal :=
  zDone 9 (s.setZ { s.z with i := getA s.z })

/-- LD R,A (R835). -/
def execLdRA (s : State) : Host.Outcome State Fault Refusal :=
  zDone 9 (s.setZ { s.z with r := getA s.z })

/-- NOP (R836). -/
def execNopZ (s : State) : Host.Outcome State Fault Refusal :=
  zDone 4 s

/-- HALT (R837). -/
def execHalt (s : State) : Host.Outcome State Fault Refusal :=
  zDone 4 (s.setZ { s.z with halted := true })

/-- DI (R838). -/
def execDi (s : State) : Host.Outcome State Fault Refusal :=
  zDone 4 (s.setZ { s.z with iff1 := false, iff2 := false })

/-- EI (R839). -/
def execEi (s : State) : Host.Outcome State Fault Refusal :=
  zDone 4 (s.setZ { s.z with iff1 := true, iff2 := true, eiDelay := true })

/-- IM 0 (R840). -/
def execIm0 (s : State) : Host.Outcome State Fault Refusal :=
  zDone 8 (setIm s .im0)

/-- IM 1 (R840). -/
def execIm1 (s : State) : Host.Outcome State Fault Refusal :=
  zDone 8 (setIm s .im1)

/-- IM 2 (R840). -/
def execIm2 (s : State) : Host.Outcome State Fault Refusal :=
  zDone 8 (setIm s .im2)

end Sys2Proof.Machine
end

