-- ==== Sys2Proof/Machine/Z80Rotate.lean ====
section
/-! DEFINITION. Z80 rotates, shifts, digit rotates and bit instructions (41_z80_rotate_bit.md). Every meaning is called with
PC past the instruction; its T-states are those of the rule. -/

namespace Sys2Proof.Machine

/-! ### Shared operations -/

/-- RLCA, RRCA, RLA, RRA (R501, R510 to R513). -/
def rotateA (k : Shift8) (s : State) : State :=
  let r := shift8 k (getA s.z) (fC (getF s.z))
  s.setZ (setAF s.z r.1 (flagsKeep (getF s.z) r.1 false false r.2))

/-- T-states of a CB-map operand: register or (HL) (R503). -/
def locTime (l : Loc8) (reg mem : Nat) : Nat :=
  match l with
  | .reg _ => reg
  | .hlInd => mem

/-- A rotate or shift of a CB-map operand (R502, R503, R514). -/
def rotateLoc (k : Shift8) (l : Loc8) (s : State) : State :=
  let r := shift8 k (getLoc8 s l) (fC (getF s.z))
  let s := setLoc8 s l r.1
  s.setZ (setF s.z (shiftF r.1 r.2))

/-- A rotate or shift of (ii+d), WZ at the address (R503, R514). -/
def rotateIdx (k : Shift8) (ii : IndexReg) (d : Byte) (s : State) : State :=
  let s := atIndex s ii d
  let r := shift8 k (readZ8 s s.z.wz) (fC (getF s.z))
  let s := writeZ8 s s.z.wz r.1
  s.setZ (setF s.z (shiftF r.1 r.2))

/-- BIT of a CB-map operand: Y and X from a register, or from WZ's high byte (R524). -/
def testLoc (b : Fin 8) (l : Loc8) (s : State) : State :=
  let v := getLoc8 s l
  let yx := match l with
    | .reg _ => v
    | .hlInd => hiByte s.z.wz
  s.setZ (setF s.z (bitF (v.getLsbD b.val) b yx (getF s.z)))

/-- BIT of (ii+d): Y and X from the address's high byte (R524). -/
def testIdx (ii : IndexReg) (b : Fin 8) (d : Byte) (s : State) : State :=
  let s := atIndex s ii d
  s.setZ (setF s.z (bitF ((readZ8 s s.z.wz).getLsbD b.val) b (hiByte s.z.wz) (getF s.z)))

/-- A byte with bit b written: SET and RES (R525, R526). -/
def putBit (v : Byte) (b : Fin 8) (on : Bool) : Byte :=
  if on then v ||| bit8 b.val true else v &&& ~~~ (bit8 b.val true)

/-- SET and RES of a CB-map operand (R525, R526). -/
def putBitLoc (on : Bool) (b : Fin 8) (l : Loc8) (s : State) : State := setLoc8 s l (putBit (getLoc8 s l) b on)

/-- SET and RES of (ii+d), WZ at the address (R525, R526). -/
def putBitIdx (on : Bool) (ii : IndexReg) (b : Fin 8) (d : Byte) (s : State) : State :=
  let s := atIndex s ii d
  writeZ8 s s.z.wz (putBit (readZ8 s s.z.wz) b on)

/-- RLD and RRD: the byte written at HL and the new A; WZ is HL plus 1 (R522, R523). -/
def digitRotate (s : State) (m a : Byte) : State :=
  let s := writeZ8 s s.z.hl m
  s.setZ (setWZ (setAF s.z a (flagsIn a (parity a) (getF s.z))) (s.z.hl + 1))

/-! ### Accumulator rotates -/

/-- RLCA (R510). -/
def execRlca (s : State) : Host.Outcome State Fault Refusal :=
  zDone 4 (rotateA .rlc s)

/-- RRCA (R511). -/
def execRrca (s : State) : Host.Outcome State Fault Refusal :=
  zDone 4 (rotateA .rrc s)

/-- RLA (R512). -/
def execRla (s : State) : Host.Outcome State Fault Refusal :=
  zDone 4 (rotateA .rl s)

/-- RRA (R513). -/
def execRra (s : State) : Host.Outcome State Fault Refusal :=
  zDone 4 (rotateA .rr s)

/-! ### CB-map rotates and shifts -/

/-- RLC m (R514). -/
def execRlcM (z : Loc8) (s : State) : Host.Outcome State Fault Refusal :=
  zDone (locTime z 8 15) (rotateLoc .rlc z s)

/-- RLC (IX+d) (R514). -/
def execRlcIxd (d : Byte) (s : State) : Host.Outcome State Fault Refusal :=
  zDone 23 (rotateIdx .rlc .ix d s)

/-- RLC (IY+d) (R514). -/
def execRlcIyd (d : Byte) (s : State) : Host.Outcome State Fault Refusal :=
  zDone 23 (rotateIdx .rlc .iy d s)

/-- RRC m (R515). -/
def execRrcM (z : Loc8) (s : State) : Host.Outcome State Fault Refusal :=
  zDone (locTime z 8 15) (rotateLoc .rrc z s)

/-- RRC (IX+d) (R515). -/
def execRrcIxd (d : Byte) (s : State) : Host.Outcome State Fault Refusal :=
  zDone 23 (rotateIdx .rrc .ix d s)

/-- RRC (IY+d) (R515). -/
def execRrcIyd (d : Byte) (s : State) : Host.Outcome State Fault Refusal :=
  zDone 23 (rotateIdx .rrc .iy d s)

/-- RL m (R516). -/
def execRlM (z : Loc8) (s : State) : Host.Outcome State Fault Refusal :=
  zDone (locTime z 8 15) (rotateLoc .rl z s)

/-- RL (IX+d) (R516). -/
def execRlIxd (d : Byte) (s : State) : Host.Outcome State Fault Refusal :=
  zDone 23 (rotateIdx .rl .ix d s)

/-- RL (IY+d) (R516). -/
def execRlIyd (d : Byte) (s : State) : Host.Outcome State Fault Refusal :=
  zDone 23 (rotateIdx .rl .iy d s)

/-- RR m (R517). -/
def execRrM (z : Loc8) (s : State) : Host.Outcome State Fault Refusal :=
  zDone (locTime z 8 15) (rotateLoc .rr z s)

/-- RR (IX+d) (R517). -/
def execRrIxd (d : Byte) (s : State) : Host.Outcome State Fault Refusal :=
  zDone 23 (rotateIdx .rr .ix d s)

/-- RR (IY+d) (R517). -/
def execRrIyd (d : Byte) (s : State) : Host.Outcome State Fault Refusal :=
  zDone 23 (rotateIdx .rr .iy d s)

/-- SLA m (R518). -/
def execSlaM (z : Loc8) (s : State) : Host.Outcome State Fault Refusal :=
  zDone (locTime z 8 15) (rotateLoc .sla z s)

/-- SLA (IX+d) (R518). -/
def execSlaIxd (d : Byte) (s : State) : Host.Outcome State Fault Refusal :=
  zDone 23 (rotateIdx .sla .ix d s)

/-- SLA (IY+d) (R518). -/
def execSlaIyd (d : Byte) (s : State) : Host.Outcome State Fault Refusal :=
  zDone 23 (rotateIdx .sla .iy d s)

/-- SRA m (R519). -/
def execSraM (z : Loc8) (s : State) : Host.Outcome State Fault Refusal :=
  zDone (locTime z 8 15) (rotateLoc .sra z s)

/-- SRA (IX+d) (R519). -/
def execSraIxd (d : Byte) (s : State) : Host.Outcome State Fault Refusal :=
  zDone 23 (rotateIdx .sra .ix d s)

/-- SRA (IY+d) (R519). -/
def execSraIyd (d : Byte) (s : State) : Host.Outcome State Fault Refusal :=
  zDone 23 (rotateIdx .sra .iy d s)

/-- SLL m (R520). -/
def execSllM (z : Loc8) (s : State) : Host.Outcome State Fault Refusal :=
  zDone (locTime z 8 15) (rotateLoc .sll z s)

/-- SLL (IX+d) (R520). -/
def execSllIxd (d : Byte) (s : State) : Host.Outcome State Fault Refusal :=
  zDone 23 (rotateIdx .sll .ix d s)

/-- SLL (IY+d) (R520). -/
def execSllIyd (d : Byte) (s : State) : Host.Outcome State Fault Refusal :=
  zDone 23 (rotateIdx .sll .iy d s)

/-- SRL m (R521). -/
def execSrlM (z : Loc8) (s : State) : Host.Outcome State Fault Refusal :=
  zDone (locTime z 8 15) (rotateLoc .srl z s)

/-- SRL (IX+d) (R521). -/
def execSrlIxd (d : Byte) (s : State) : Host.Outcome State Fault Refusal :=
  zDone 23 (rotateIdx .srl .ix d s)

/-- SRL (IY+d) (R521). -/
def execSrlIyd (d : Byte) (s : State) : Host.Outcome State Fault Refusal :=
  zDone 23 (rotateIdx .srl .iy d s)

/-! ### Digit rotates -/

/-- RLD (R522). -/
def execRld (s : State) : Host.Outcome State Fault Refusal :=
  let t := readZ8 s s.z.hl
  let a := getA s.z
  zDone 18 (digitRotate s ((t <<< 4) ||| (a &&& 0x0F)) ((a &&& 0xF0) ||| (t >>> 4)))

/-- RRD (R523). -/
def execRrd (s : State) : Host.Outcome State Fault Refusal :=
  let t := readZ8 s s.z.hl
  let a := getA s.z
  zDone 18 (digitRotate s ((a <<< 4) ||| (t >>> 4)) ((a &&& 0xF0) ||| (t &&& 0x0F)))

/-! ### Bit test, set and reset -/

/-- BIT b,m (R524). -/
def execBitM (b : Fin 8) (z : Loc8) (s : State) : Host.Outcome State Fault Refusal :=
  zDone (locTime z 8 12) (testLoc b z s)

/-- SET b,m (R525). -/
def execSetM (b : Fin 8) (z : Loc8) (s : State) : Host.Outcome State Fault Refusal :=
  zDone (locTime z 8 15) (putBitLoc true b z s)

/-- RES b,m (R526). -/
def execResM (b : Fin 8) (z : Loc8) (s : State) : Host.Outcome State Fault Refusal :=
  zDone (locTime z 8 15) (putBitLoc false b z s)

/-- BIT b,(IX+d) (R524). -/
def execBitIxd (b : Fin 8) (d : Byte) (s : State) : Host.Outcome State Fault Refusal :=
  zDone 20 (testIdx .ix b d s)

/-- SET b,(IX+d) (R525). -/
def execSetIxd (b : Fin 8) (d : Byte) (s : State) : Host.Outcome State Fault Refusal :=
  zDone 23 (putBitIdx true .ix b d s)

/-- RES b,(IX+d) (R526). -/
def execResIxd (b : Fin 8) (d : Byte) (s : State) : Host.Outcome State Fault Refusal :=
  zDone 23 (putBitIdx false .ix b d s)

/-- BIT b,(IY+d) (R524). -/
def execBitIyd (b : Fin 8) (d : Byte) (s : State) : Host.Outcome State Fault Refusal :=
  zDone 20 (testIdx .iy b d s)

/-- SET b,(IY+d) (R525). -/
def execSetIyd (b : Fin 8) (d : Byte) (s : State) : Host.Outcome State Fault Refusal :=
  zDone 23 (putBitIdx true .iy b d s)

/-- RES b,(IY+d) (R526). -/
def execResIyd (b : Fin 8) (d : Byte) (s : State) : Host.Outcome State Fault Refusal :=
  zDone 23 (putBitIdx false .iy b d s)

end Sys2Proof.Machine
end

