-- ==== Sys2Proof/Machine/Dispatch.lean ====
section
/-! DEFINITION. The meaning of every instruction: one arm per constructor of `Instr`, each one call of a meaning. -/

namespace Sys2Proof.Machine

/-- What an instruction does. PC is already past the whole instruction (30_encoding.md R259, R274), and on the 68000 `pc0` is
the address of its operation word (47 R1100). -/
def exec (i : Instr) (s : State) : Host.Outcome State Fault Refusal :=
  match i with
  | .nopZ => Sys2Proof.Machine.execNopZ s
  | .exAfAf => Sys2Proof.Machine.execExAfAf s
  | .djnz e => Sys2Proof.Machine.execDjnz e s
  | .jr e => Sys2Proof.Machine.execJr e s
  | .jrCc cond e => Sys2Proof.Machine.execJrCc cond e s
  | .ldRpNn p nn => Sys2Proof.Machine.execLdRpNn p nn s
  | .addHlRp p => Sys2Proof.Machine.execAddHlRp p s
  | .ldIndA p => Sys2Proof.Machine.execLdIndA p s
  | .ldMemHl nn => Sys2Proof.Machine.execLdMemHl nn s
  | .ldMemA nn => Sys2Proof.Machine.execLdMemA nn s
  | .ldAInd p => Sys2Proof.Machine.execLdAInd p s
  | .ldHlMem nn => Sys2Proof.Machine.execLdHlMem nn s
  | .ldAMem nn => Sys2Proof.Machine.execLdAMem nn s
  | .incRp p => Sys2Proof.Machine.execIncRp p s
  | .decRp p => Sys2Proof.Machine.execDecRp p s
  | .incR r => Sys2Proof.Machine.execIncR r s
  | .incHlInd => Sys2Proof.Machine.execIncHlInd s
  | .decR r => Sys2Proof.Machine.execDecR r s
  | .decHlInd => Sys2Proof.Machine.execDecHlInd s
  | .ldRN r n => Sys2Proof.Machine.execLdRN r n s
  | .ldHlIndN n => Sys2Proof.Machine.execLdHlIndN n s
  | .rlca => Sys2Proof.Machine.execRlca s
  | .rrca => Sys2Proof.Machine.execRrca s
  | .rla => Sys2Proof.Machine.execRla s
  | .rra => Sys2Proof.Machine.execRra s
  | .daa => Sys2Proof.Machine.execDaa s
  | .cpl => Sys2Proof.Machine.execCpl s
  | .scf => Sys2Proof.Machine.execScf s
  | .ccf => Sys2Proof.Machine.execCcf s
  | .ldRR r r' => Sys2Proof.Machine.execLdRR r r' s
  | .ldRHlInd r => Sys2Proof.Machine.execLdRHlInd r s
  | .ldHlIndR r => Sys2Proof.Machine.execLdHlIndR r s
  | .halt => Sys2Proof.Machine.execHalt s
  | .addAR r => Sys2Proof.Machine.execAddAR r s
  | .addAHlInd => Sys2Proof.Machine.execAddAHlInd s
  | .addAN n => Sys2Proof.Machine.execAddAN n s
  | .adcAR r => Sys2Proof.Machine.execAdcAR r s
  | .adcAHlInd => Sys2Proof.Machine.execAdcAHlInd s
  | .adcAN n => Sys2Proof.Machine.execAdcAN n s
  | .subR r => Sys2Proof.Machine.execSubR r s
  | .subHlInd => Sys2Proof.Machine.execSubHlInd s
  | .subN n => Sys2Proof.Machine.execSubN n s
  | .sbcAR r => Sys2Proof.Machine.execSbcAR r s
  | .sbcAHlInd => Sys2Proof.Machine.execSbcAHlInd s
  | .sbcAN n => Sys2Proof.Machine.execSbcAN n s
  | .andR r => Sys2Proof.Machine.execAndR r s
  | .andHlInd => Sys2Proof.Machine.execAndHlInd s
  | .andN n => Sys2Proof.Machine.execAndN n s
  | .xorR r => Sys2Proof.Machine.execXorR r s
  | .xorHlInd => Sys2Proof.Machine.execXorHlInd s
  | .xorN n => Sys2Proof.Machine.execXorN n s
  | .orR r => Sys2Proof.Machine.execOrR r s
  | .orHlInd => Sys2Proof.Machine.execOrHlInd s
  | .orN n => Sys2Proof.Machine.execOrN n s
  | .cpR r => Sys2Proof.Machine.execCpR r s
  | .cpHlInd => Sys2Proof.Machine.execCpHlInd s
  | .cpN n => Sys2Proof.Machine.execCpN n s
  | .retCc cond => Sys2Proof.Machine.execRetCc cond s
  | .popRp2 p => Sys2Proof.Machine.execPopRp2 p s
  | .ret => Sys2Proof.Machine.execRet s
  | .exx => Sys2Proof.Machine.execExx s
  | .jpHl => Sys2Proof.Machine.execJpHl s
  | .ldSpHl => Sys2Proof.Machine.execLdSpHl s
  | .jpCcNn cond nn => Sys2Proof.Machine.execJpCcNn cond nn s
  | .jpNn nn => Sys2Proof.Machine.execJpNn nn s
  | .outNA n => Sys2Proof.Machine.execOutNA n s
  | .inAN n => Sys2Proof.Machine.execInAN n s
  | .exSpHl => Sys2Proof.Machine.execExSpHl s
  | .exDeHl => Sys2Proof.Machine.execExDeHl s
  | .di => Sys2Proof.Machine.execDi s
  | .ei => Sys2Proof.Machine.execEi s
  | .callCcNn cond nn => Sys2Proof.Machine.execCallCcNn cond nn s
  | .pushRp2 p => Sys2Proof.Machine.execPushRp2 p s
  | .callNn nn => Sys2Proof.Machine.execCallNn nn s
  | .rst y => Sys2Proof.Machine.execRst y s
  | .rlcM z => Sys2Proof.Machine.execRlcM z s
  | .rrcM z => Sys2Proof.Machine.execRrcM z s
  | .rlM z => Sys2Proof.Machine.execRlM z s
  | .rrM z => Sys2Proof.Machine.execRrM z s
  | .slaM z => Sys2Proof.Machine.execSlaM z s
  | .sraM z => Sys2Proof.Machine.execSraM z s
  | .sllM z => Sys2Proof.Machine.execSllM z s
  | .srlM z => Sys2Proof.Machine.execSrlM z s
  | .bitM b z => Sys2Proof.Machine.execBitM b z s
  | .resM b z => Sys2Proof.Machine.execResM b z s
  | .setM b z => Sys2Proof.Machine.execSetM b z s
  | .inRC r => Sys2Proof.Machine.execInRC r s
  | .outCR r => Sys2Proof.Machine.execOutCR r s
  | .sbcHlRp p => Sys2Proof.Machine.execSbcHlRp p s
  | .adcHlRp p => Sys2Proof.Machine.execAdcHlRp p s
  | .ldMemRp p nn => Sys2Proof.Machine.execLdMemRp p nn s
  | .ldRpMem p nn => Sys2Proof.Machine.execLdRpMem p nn s
  | .neg => Sys2Proof.Machine.execNeg s
  | .retn => Sys2Proof.Machine.execRetn s
  | .reti => Sys2Proof.Machine.execReti s
  | .im0 => Sys2Proof.Machine.execIm0 s
  | .im1 => Sys2Proof.Machine.execIm1 s
  | .im2 => Sys2Proof.Machine.execIm2 s
  | .ldIA => Sys2Proof.Machine.execLdIA s
  | .ldRA => Sys2Proof.Machine.execLdRA s
  | .ldAI => Sys2Proof.Machine.execLdAI s
  | .ldAR => Sys2Proof.Machine.execLdAR s
  | .rrd => Sys2Proof.Machine.execRrd s
  | .rld => Sys2Proof.Machine.execRld s
  | .ldi => Sys2Proof.Machine.execLdi s
  | .cpi => Sys2Proof.Machine.execCpi s
  | .ini => Sys2Proof.Machine.execIni s
  | .outi => Sys2Proof.Machine.execOuti s
  | .ldd => Sys2Proof.Machine.execLdd s
  | .cpd => Sys2Proof.Machine.execCpd s
  | .ind => Sys2Proof.Machine.execInd s
  | .outd => Sys2Proof.Machine.execOutd s
  | .ldir => Sys2Proof.Machine.execLdir s
  | .cpir => Sys2Proof.Machine.execCpir s
  | .inir => Sys2Proof.Machine.execInir s
  | .otir => Sys2Proof.Machine.execOtir s
  | .lddr => Sys2Proof.Machine.execLddr s
  | .cpdr => Sys2Proof.Machine.execCpdr s
  | .indr => Sys2Proof.Machine.execIndr s
  | .otdr => Sys2Proof.Machine.execOtdr s
  | .addIxPp p => Sys2Proof.Machine.execAddIxPp p s
  | .ldIxNn nn => Sys2Proof.Machine.execLdIxNn nn s
  | .ldMemIx nn => Sys2Proof.Machine.execLdMemIx nn s
  | .ldIxMem nn => Sys2Proof.Machine.execLdIxMem nn s
  | .incIx => Sys2Proof.Machine.execIncIx s
  | .decIx => Sys2Proof.Machine.execDecIx s
  | .incIxd d => Sys2Proof.Machine.execIncIxd d s
  | .decIxd d => Sys2Proof.Machine.execDecIxd d s
  | .ldIxdN d n => Sys2Proof.Machine.execLdIxdN d n s
  | .ldRIxd r d => Sys2Proof.Machine.execLdRIxd r d s
  | .ldIxdR d r => Sys2Proof.Machine.execLdIxdR d r s
  | .addAIxd d => Sys2Proof.Machine.execAddAIxd d s
  | .adcAIxd d => Sys2Proof.Machine.execAdcAIxd d s
  | .subIxd d => Sys2Proof.Machine.execSubIxd d s
  | .sbcAIxd d => Sys2Proof.Machine.execSbcAIxd d s
  | .andIxd d => Sys2Proof.Machine.execAndIxd d s
  | .xorIxd d => Sys2Proof.Machine.execXorIxd d s
  | .orIxd d => Sys2Proof.Machine.execOrIxd d s
  | .cpIxd d => Sys2Proof.Machine.execCpIxd d s
  | .popIx => Sys2Proof.Machine.execPopIx s
  | .pushIx => Sys2Proof.Machine.execPushIx s
  | .exSpIx => Sys2Proof.Machine.execExSpIx s
  | .jpIx => Sys2Proof.Machine.execJpIx s
  | .ldSpIx => Sys2Proof.Machine.execLdSpIx s
  | .addIyPp p => Sys2Proof.Machine.execAddIyPp p s
  | .ldIyNn nn => Sys2Proof.Machine.execLdIyNn nn s
  | .ldMemIy nn => Sys2Proof.Machine.execLdMemIy nn s
  | .ldIyMem nn => Sys2Proof.Machine.execLdIyMem nn s
  | .incIy => Sys2Proof.Machine.execIncIy s
  | .decIy => Sys2Proof.Machine.execDecIy s
  | .incIyd d => Sys2Proof.Machine.execIncIyd d s
  | .decIyd d => Sys2Proof.Machine.execDecIyd d s
  | .ldIydN d n => Sys2Proof.Machine.execLdIydN d n s
  | .ldRIyd r d => Sys2Proof.Machine.execLdRIyd r d s
  | .ldIydR d r => Sys2Proof.Machine.execLdIydR d r s
  | .addAIyd d => Sys2Proof.Machine.execAddAIyd d s
  | .adcAIyd d => Sys2Proof.Machine.execAdcAIyd d s
  | .subIyd d => Sys2Proof.Machine.execSubIyd d s
  | .sbcAIyd d => Sys2Proof.Machine.execSbcAIyd d s
  | .andIyd d => Sys2Proof.Machine.execAndIyd d s
  | .xorIyd d => Sys2Proof.Machine.execXorIyd d s
  | .orIyd d => Sys2Proof.Machine.execOrIyd d s
  | .cpIyd d => Sys2Proof.Machine.execCpIyd d s
  | .popIy => Sys2Proof.Machine.execPopIy s
  | .pushIy => Sys2Proof.Machine.execPushIy s
  | .exSpIy => Sys2Proof.Machine.execExSpIy s
  | .jpIy => Sys2Proof.Machine.execJpIy s
  | .ldSpIy => Sys2Proof.Machine.execLdSpIy s
  | .rlcIxd d => Sys2Proof.Machine.execRlcIxd d s
  | .rrcIxd d => Sys2Proof.Machine.execRrcIxd d s
  | .rlIxd d => Sys2Proof.Machine.execRlIxd d s
  | .rrIxd d => Sys2Proof.Machine.execRrIxd d s
  | .slaIxd d => Sys2Proof.Machine.execSlaIxd d s
  | .sraIxd d => Sys2Proof.Machine.execSraIxd d s
  | .sllIxd d => Sys2Proof.Machine.execSllIxd d s
  | .srlIxd d => Sys2Proof.Machine.execSrlIxd d s
  | .bitIxd b d => Sys2Proof.Machine.execBitIxd b d s
  | .resIxd b d => Sys2Proof.Machine.execResIxd b d s
  | .setIxd b d => Sys2Proof.Machine.execSetIxd b d s
  | .rlcIyd d => Sys2Proof.Machine.execRlcIyd d s
  | .rrcIyd d => Sys2Proof.Machine.execRrcIyd d s
  | .rlIyd d => Sys2Proof.Machine.execRlIyd d s
  | .rrIyd d => Sys2Proof.Machine.execRrIyd d s
  | .slaIyd d => Sys2Proof.Machine.execSlaIyd d s
  | .sraIyd d => Sys2Proof.Machine.execSraIyd d s
  | .sllIyd d => Sys2Proof.Machine.execSllIyd d s
  | .srlIyd d => Sys2Proof.Machine.execSrlIyd d s
  | .bitIyd b d => Sys2Proof.Machine.execBitIyd b d s
  | .resIyd b d => Sys2Proof.Machine.execResIyd b d s
  | .setIyd b d => Sys2Proof.Machine.execSetIyd b d s
  | .oriEa sz imm ea => Sys2Proof.Machine.execOriEa sz imm ea s
  | .oriCcr imm => Sys2Proof.Machine.execOriCcr imm s
  | .oriSr imm => Sys2Proof.Machine.execOriSr imm s
  | .andiEa sz imm ea => Sys2Proof.Machine.execAndiEa sz imm ea s
  | .andiCcr imm => Sys2Proof.Machine.execAndiCcr imm s
  | .andiSr imm => Sys2Proof.Machine.execAndiSr imm s
  | .subiEa sz imm ea => Sys2Proof.Machine.execSubiEa sz imm ea s
  | .addiEa sz imm ea => Sys2Proof.Machine.execAddiEa sz imm ea s
  | .eoriEa sz imm ea => Sys2Proof.Machine.execEoriEa sz imm ea s
  | .eoriCcr imm => Sys2Proof.Machine.execEoriCcr imm s
  | .eoriSr imm => Sys2Proof.Machine.execEoriSr imm s
  | .cmpiEa sz imm ea => Sys2Proof.Machine.execCmpiEa sz imm ea s
  | .btstN n ea => Sys2Proof.Machine.execBtstN n ea s
  | .bchgN n ea => Sys2Proof.Machine.execBchgN n ea s
  | .bclrN n ea => Sys2Proof.Machine.execBclrN n ea s
  | .bsetN n ea => Sys2Proof.Machine.execBsetN n ea s
  | .btstD n ea => Sys2Proof.Machine.execBtstD n ea s
  | .bchgD n ea => Sys2Proof.Machine.execBchgD n ea s
  | .bclrD n ea => Sys2Proof.Machine.execBclrD n ea s
  | .bsetD n ea => Sys2Proof.Machine.execBsetD n ea s
  | .movep o x y d => Sys2Proof.Machine.execMovep o x y d s
  | .moveB src dst => Sys2Proof.Machine.execMoveB src dst s
  | .moveL src dst => Sys2Proof.Machine.execMoveL src dst s
  | .moveW src dst => Sys2Proof.Machine.execMoveW src dst s
  | .moveaL src n => Sys2Proof.Machine.execMoveaL src n s
  | .moveaW src n => Sys2Proof.Machine.execMoveaW src n s
  | .negx sz ea => Sys2Proof.Machine.execNegx sz ea s
  | .moveFromSr ea => Sys2Proof.Machine.execMoveFromSr ea s
  | .clr sz ea => Sys2Proof.Machine.execClr sz ea s
  | .negEa sz ea => Sys2Proof.Machine.execNegEa sz ea s
  | .moveToCcr ea => Sys2Proof.Machine.execMoveToCcr ea s
  | .notEa sz ea => Sys2Proof.Machine.execNotEa sz ea s
  | .moveToSr ea => Sys2Proof.Machine.execMoveToSr ea s
  | .nbcd ea => Sys2Proof.Machine.execNbcd ea s
  | .swap n => Sys2Proof.Machine.execSwap n s
  | .pea ea => Sys2Proof.Machine.execPea ea s
  | .ext sz n => Sys2Proof.Machine.execExt sz n s
  | .movemStore sz mask ea => Sys2Proof.Machine.execMovemStore sz mask ea s
  | .tst sz ea => Sys2Proof.Machine.execTst sz ea s
  | .tas ea => Sys2Proof.Machine.execTas ea s
  | .illegal => Sys2Proof.Machine.execIllegal s
  | .movemLoad sz mask ea => Sys2Proof.Machine.execMovemLoad sz mask ea s
  | .trap v => Sys2Proof.Machine.execTrap v s
  | .link n d => Sys2Proof.Machine.execLink n d s
  | .unlk n => Sys2Proof.Machine.execUnlk n s
  | .moveAnUsp n => Sys2Proof.Machine.execMoveAnUsp n s
  | .moveUspAn n => Sys2Proof.Machine.execMoveUspAn n s
  | .reset => Sys2Proof.Machine.execReset s
  | .nopM => Sys2Proof.Machine.execNopM s
  | .stop imm => Sys2Proof.Machine.execStop imm s
  | .rte => Sys2Proof.Machine.execRte s
  | .rts => Sys2Proof.Machine.execRts s
  | .trapv => Sys2Proof.Machine.execTrapv s
  | .rtr => Sys2Proof.Machine.execRtr s
  | .jsr ea => Sys2Proof.Machine.execJsr ea s
  | .jmp ea => Sys2Proof.Machine.execJmp ea s
  | .chk ea n => Sys2Proof.Machine.execChk ea n s
  | .lea ea n => Sys2Proof.Machine.execLea ea n s
  | .addq q sz ea => Sys2Proof.Machine.execAddq q sz ea s
  | .subq q sz ea => Sys2Proof.Machine.execSubq q sz ea s
  | .scc cond ea => Sys2Proof.Machine.execScc cond ea s
  | .dbcc cond n d => Sys2Proof.Machine.execDbcc cond n d s
  | .bra d => Sys2Proof.Machine.execBra d s
  | .bsr d => Sys2Proof.Machine.execBsr d s
  | .bcc cond d => Sys2Proof.Machine.execBcc cond d s
  | .moveq v n => Sys2Proof.Machine.execMoveq v n s
  | .orEaD sz ea n => Sys2Proof.Machine.execOrEaD sz ea n s
  | .orDEa sz n ea => Sys2Proof.Machine.execOrDEa sz n ea s
  | .divu ea n => Sys2Proof.Machine.execDivu ea n s
  | .divs ea n => Sys2Proof.Machine.execDivs ea n s
  | .sbcd f y x => Sys2Proof.Machine.execSbcd f y x s
  | .subEaD sz ea n => Sys2Proof.Machine.execSubEaD sz ea n s
  | .subDEa sz n ea => Sys2Proof.Machine.execSubDEa sz n ea s
  | .suba sz ea n => Sys2Proof.Machine.execSuba sz ea n s
  | .subx sz f y x => Sys2Proof.Machine.execSubx sz f y x s
  | .lineA w => Sys2Proof.Machine.execLineA w s
  | .cmpEaD sz ea n => Sys2Proof.Machine.execCmpEaD sz ea n s
  | .cmpa sz ea n => Sys2Proof.Machine.execCmpa sz ea n s
  | .eorDEa sz n ea => Sys2Proof.Machine.execEorDEa sz n ea s
  | .cmpm sz y x => Sys2Proof.Machine.execCmpm sz y x s
  | .andEaD sz ea n => Sys2Proof.Machine.execAndEaD sz ea n s
  | .andDEa sz n ea => Sys2Proof.Machine.execAndDEa sz n ea s
  | .mulu ea n => Sys2Proof.Machine.execMulu ea n s
  | .muls ea n => Sys2Proof.Machine.execMuls ea n s
  | .abcd f y x => Sys2Proof.Machine.execAbcd f y x s
  | .exgDD x y => Sys2Proof.Machine.execExgDD x y s
  | .exgAA x y => Sys2Proof.Machine.execExgAA x y s
  | .exgDA x y => Sys2Proof.Machine.execExgDA x y s
  | .addEaD sz ea n => Sys2Proof.Machine.execAddEaD sz ea n s
  | .addDEa sz n ea => Sys2Proof.Machine.execAddDEa sz n ea s
  | .adda sz ea n => Sys2Proof.Machine.execAdda sz ea n s
  | .addx sz f y x => Sys2Proof.Machine.execAddx sz f y x s
  | .asrReg sz k n => Sys2Proof.Machine.execAsrReg sz k n s
  | .aslReg sz k n => Sys2Proof.Machine.execAslReg sz k n s
  | .lsrReg sz k n => Sys2Proof.Machine.execLsrReg sz k n s
  | .lslReg sz k n => Sys2Proof.Machine.execLslReg sz k n s
  | .roxrReg sz k n => Sys2Proof.Machine.execRoxrReg sz k n s
  | .roxlReg sz k n => Sys2Proof.Machine.execRoxlReg sz k n s
  | .rorReg sz k n => Sys2Proof.Machine.execRorReg sz k n s
  | .rolReg sz k n => Sys2Proof.Machine.execRolReg sz k n s
  | .asrMem ea => Sys2Proof.Machine.execAsrMem ea s
  | .aslMem ea => Sys2Proof.Machine.execAslMem ea s
  | .lsrMem ea => Sys2Proof.Machine.execLsrMem ea s
  | .lslMem ea => Sys2Proof.Machine.execLslMem ea s
  | .roxrMem ea => Sys2Proof.Machine.execRoxrMem ea s
  | .roxlMem ea => Sys2Proof.Machine.execRoxlMem ea s
  | .rorMem ea => Sys2Proof.Machine.execRorMem ea s
  | .rolMem ea => Sys2Proof.Machine.execRolMem ea s
  | .lineF w => Sys2Proof.Machine.execLineF w s

end Sys2Proof.Machine
end

