-- ==== Sys2Proof/Decode.lean ====
section
/-! DEFINITION. The decoders of both CPUs, total on any bytes, and the encoder (30_encoding.md R250 to R285).
A Z80 decoder by maps (R258, R265 to R271), a 68000 decoder by rows of mask and match (R251 to R253, R284). -/

namespace Sys2Proof

/-- What the decoder answers: an instruction with its length in bytes; an empty slot, named by its table and the opcode
that indexed it (R254); or `short` where the bytes given end inside the instruction (the fetch never gives too few). -/
inductive Decoded
  | ok (i : Instr) (length : Nat)
  | unknown (map : OpMap) (opcode : Nat)
  | short
deriving DecidableEq, Repr

/-! ### Z80 operand fields (R261) -/

/-- The table r[]; index 6 is (HL), no register. -/
def reg8? : Nat → Option Reg8
  | 0 => some .b
  | 1 => some .c
  | 2 => some .d
  | 3 => some .e
  | 4 => some .h
  | 5 => some .l
  | 7 => some .a
  | _ => none

/-- The index of a register in r[]. -/
def Reg8.code : Reg8 → Nat
  | .b => 0
  | .c => 1
  | .d => 2
  | .e => 3
  | .h => 4
  | .l => 5
  | .a => 7

/-- r[z] of the CB map, index 6 being (HL). -/
def loc8Of (k : Nat) : Loc8 :=
  match reg8? k with
  | some r => .reg r
  | none => .hlInd

/-- The index of a CB-map operand. -/
def Loc8.code : Loc8 → Nat
  | .reg r => r.code
  | .hlInd => 6

/-- The table rp[]. -/
def rpOf : Nat → Rp
  | 0 => .bc
  | 1 => .de
  | 2 => .hl
  | _ => .sp

/-- The index in rp[]. -/
def Rp.code : Rp → Nat
  | .bc => 0
  | .de => 1
  | .hl => 2
  | .sp => 3

/-- The table rp2[]. -/
def rp2Of : Nat → Rp2
  | 0 => .bc
  | 1 => .de
  | 2 => .hl
  | _ => .af

/-- The index in rp2[]. -/
def Rp2.code : Rp2 → Nat
  | .bc => 0
  | .de => 1
  | .hl => 2
  | .af => 3

/-- The table pp[] of ADD IX,pp and ADD IY,pp (R428). -/
def rpiOf : Nat → Rpi
  | 0 => .bc
  | 1 => .de
  | 2 => .ii
  | _ => .sp

/-- The index in pp[]. -/
def Rpi.code : Rpi → Nat
  | .bc => 0
  | .de => 1
  | .ii => 2
  | .sp => 3

/-- The conditions cc[] (10_state.md R64). -/
def cond8Of : Nat → Cond8
  | 0 => .nz
  | 1 => .z
  | 2 => .nc
  | 3 => .c
  | 4 => .po
  | 5 => .pe
  | 6 => .p
  | _ => .m

/-- The index in cc[]. -/
def Cond8.code : Cond8 → Nat
  | .nz => 0
  | .z => 1
  | .nc => 2
  | .c => 3
  | .po => 4
  | .pe => 5
  | .p => 6
  | .m => 7

/-- The conditions of JR cc, codes 0 to 3 (R701). -/
def jrCondOf : Nat → JrCond
  | 0 => .nz
  | 1 => .z
  | 2 => .nc
  | _ => .c

/-- The index of a JR condition. -/
def JrCond.code : JrCond → Nat
  | .nz => 0
  | .z => 1
  | .nc => 2
  | .c => 3

/-- A number below 8 from its low three bits. -/
def fin8 (k : Nat) : Fin 8 := ⟨k % 8, Nat.mod_lt _ (by decide)⟩

/-- IX's or IY's alternative. -/
def IndexReg.pick {α : Type} (ii : IndexReg) (x y : α) : α :=
  match ii with
  | .ix => x
  | .iy => y

/-! ### Z80 maps -/

/-- Reads one more byte of a Z80 instruction (R259). -/
def with1 (bs : List Byte) (k : Byte → Decoded) : Decoded :=
  match bs with
  | n :: _ => k n
  | [] => .short

/-- Reads two more bytes of a Z80 instruction (R259). -/
def with2 (bs : List Byte) (k : Byte → Byte → Decoded) : Decoded :=
  match bs with
  | n :: m :: _ => k n m
  | _ => .short

/-- A 16-bit immediate, low byte first (R263). -/
def withNn (bs : List Byte) (k : Word → Decoded) : Decoded :=
  with2 bs fun lo hi => k (hi ++ lo)

/-- alu[y] r[z], PRIMARY x = 2 with z not 6 (R264, R266). -/
def aluReg (y : Nat) (r : Reg8) : Instr :=
  match y with
  | 0 => .addAR r
  | 1 => .adcAR r
  | 2 => .subR r
  | 3 => .sbcAR r
  | 4 => .andR r
  | 5 => .xorR r
  | 6 => .orR r
  | _ => .cpR r

/-- alu[y] (HL) (R264, R266). -/
def aluHl (y : Nat) : Instr :=
  match y with
  | 0 => .addAHlInd
  | 1 => .adcAHlInd
  | 2 => .subHlInd
  | 3 => .sbcAHlInd
  | 4 => .andHlInd
  | 5 => .xorHlInd
  | 6 => .orHlInd
  | _ => .cpHlInd

/-- alu[y] n (R264, R267). -/
def aluImm (y : Nat) (n : Byte) : Instr :=
  match y with
  | 0 => .addAN n
  | 1 => .adcAN n
  | 2 => .subN n
  | 3 => .sbcAN n
  | 4 => .andN n
  | 5 => .xorN n
  | 6 => .orN n
  | _ => .cpN n

/-- alu[y] (ii+d) (R270). -/
def aluIdx (ii : IndexReg) (y : Nat) (d : Byte) : Instr :=
  match y with
  | 0 => ii.pick (.addAIxd d) (.addAIyd d)
  | 1 => ii.pick (.adcAIxd d) (.adcAIyd d)
  | 2 => ii.pick (.subIxd d) (.subIyd d)
  | 3 => ii.pick (.sbcAIxd d) (.sbcAIyd d)
  | 4 => ii.pick (.andIxd d) (.andIyd d)
  | 5 => ii.pick (.xorIxd d) (.xorIyd d)
  | 6 => ii.pick (.orIxd d) (.orIyd d)
  | _ => ii.pick (.cpIxd d) (.cpIyd d)

/-- PRIMARY map, x = 0 (R265). -/
def decodePrimary0 (y z : Nat) (bs : List Byte) : Decoded :=
  let p := y / 2
  let q := y % 2
  match z with
  | 0 => match y with
    | 0 => .ok .nopZ 1
    | 1 => .ok .exAfAf 1
    | 2 => with1 bs fun e => .ok (.djnz e) 2
    | 3 => with1 bs fun e => .ok (.jr e) 2
    | _ => with1 bs fun e => .ok (.jrCc (jrCondOf (y - 4)) e) 2
  | 1 => if q = 0 then withNn bs fun nn => .ok (.ldRpNn (rpOf p) nn) 3 else .ok (.addHlRp (rpOf p)) 1
  | 2 => match y with
    | 0 => .ok (.ldIndA .bc) 1
    | 1 => .ok (.ldAInd .bc) 1
    | 2 => .ok (.ldIndA .de) 1
    | 3 => .ok (.ldAInd .de) 1
    | 4 => withNn bs fun nn => .ok (.ldMemHl nn) 3
    | 5 => withNn bs fun nn => .ok (.ldHlMem nn) 3
    | 6 => withNn bs fun nn => .ok (.ldMemA nn) 3
    | _ => withNn bs fun nn => .ok (.ldAMem nn) 3
  | 3 => if q = 0 then .ok (.incRp (rpOf p)) 1 else .ok (.decRp (rpOf p)) 1
  | 4 => match reg8? y with
    | some r => .ok (.incR r) 1
    | none => .ok .incHlInd 1
  | 5 => match reg8? y with
    | some r => .ok (.decR r) 1
    | none => .ok .decHlInd 1
  | 6 => match reg8? y with
    | some r => with1 bs fun n => .ok (.ldRN r n) 2
    | none => with1 bs fun n => .ok (.ldHlIndN n) 2
  | _ => match y with
    | 0 => .ok .rlca 1
    | 1 => .ok .rrca 1
    | 2 => .ok .rla 1
    | 3 => .ok .rra 1
    | 4 => .ok .daa 1
    | 5 => .ok .cpl 1
    | 6 => .ok .scf 1
    | _ => .ok .ccf 1

/-- PRIMARY map, x = 1: LD r[y],r[z] and HALT (R266). -/
def decodePrimary1 (y z : Nat) : Decoded :=
  match reg8? y, reg8? z with
  | some r, some r' => .ok (.ldRR r r') 1
  | some r, none => .ok (.ldRHlInd r) 1
  | none, some r => .ok (.ldHlIndR r) 1
  | none, none => .ok .halt 1

/-- PRIMARY map, x = 3 (R267); the four prefixes are read before this map is asked. -/
def decodePrimary3 (op y z : Nat) (bs : List Byte) : Decoded :=
  let p := y / 2
  let q := y % 2
  match z with
  | 0 => .ok (.retCc (cond8Of y)) 1
  | 1 => if q = 0 then .ok (.popRp2 (rp2Of p)) 1 else
    match p with
    | 0 => .ok .ret 1
    | 1 => .ok .exx 1
    | 2 => .ok .jpHl 1
    | _ => .ok .ldSpHl 1
  | 2 => withNn bs fun nn => .ok (.jpCcNn (cond8Of y) nn) 3
  | 3 => match y with
    | 0 => withNn bs fun nn => .ok (.jpNn nn) 3
    | 2 => with1 bs fun n => .ok (.outNA n) 2
    | 3 => with1 bs fun n => .ok (.inAN n) 2
    | 4 => .ok .exSpHl 1
    | 5 => .ok .exDeHl 1
    | 6 => .ok .di 1
    | 7 => .ok .ei 1
    | _ => .unknown .primary op
  | 4 => withNn bs fun nn => .ok (.callCcNn (cond8Of y) nn) 3
  | 5 => if q = 0 then .ok (.pushRp2 (rp2Of p)) 1 else
    match p with
    | 0 => withNn bs fun nn => .ok (.callNn nn) 3
    | _ => .unknown .primary op
  | 6 => with1 bs fun n => .ok (aluImm y n) 2
  | _ => .ok (.rst (fin8 y)) 1

/-- The PRIMARY map (R265 to R267). -/
def decodePrimary (op : Nat) (bs : List Byte) : Decoded :=
  let y := op / 8 % 8
  let z := op % 8
  match op / 64 with
  | 0 => decodePrimary0 y z bs
  | 1 => decodePrimary1 y z
  | 2 => match reg8? z with
    | some r => .ok (aluReg y r) 1
    | none => .ok (aluHl y) 1
  | _ => decodePrimary3 op y z bs

/-- The CB map (R268). -/
def decodeCb (op : Nat) : Decoded :=
  let y := op / 8 % 8
  let m := loc8Of (op % 8)
  match op / 64 with
  | 0 => match y with
    | 0 => .ok (.rlcM m) 2
    | 1 => .ok (.rrcM m) 2
    | 2 => .ok (.rlM m) 2
    | 3 => .ok (.rrM m) 2
    | 4 => .ok (.slaM m) 2
    | 5 => .ok (.sraM m) 2
    | 6 => .ok (.sllM m) 2
    | _ => .ok (.srlM m) 2
  | 1 => .ok (.bitM (fin8 y) m) 2
  | 2 => .ok (.resM (fin8 y) m) 2
  | _ => .ok (.setM (fin8 y) m) 2

/-- The ED map's rows with x = 1 (R269). -/
def decodeEd1 (op y z : Nat) (bs : List Byte) : Decoded :=
  let p := y / 2
  let q := y % 2
  match z with
  | 0 => match reg8? y with
    | some r => .ok (.inRC r) 2
    | none => .unknown .ed op
  | 1 => match reg8? y with
    | some r => .ok (.outCR r) 2
    | none => .unknown .ed op
  | 2 => if q = 0 then .ok (.sbcHlRp (rpOf p)) 2 else .ok (.adcHlRp (rpOf p)) 2
  | 3 => withNn bs fun nn => .ok (if q = 0 then .ldMemRp (rpOf p) nn else .ldRpMem (rpOf p) nn) 4
  | 4 => if y = 0 then .ok .neg 2 else .unknown .ed op
  | 5 => if y = 0 then .ok .retn 2 else if y = 1 then .ok .reti 2 else .unknown .ed op
  | 6 => match y with
    | 0 => .ok .im0 2
    | 2 => .ok .im1 2
    | 3 => .ok .im2 2
    | _ => .unknown .ed op
  | _ => match y with
    | 0 => .ok .ldIA 2
    | 1 => .ok .ldRA 2
    | 2 => .ok .ldAI 2
    | 3 => .ok .ldAR 2
    | 4 => .ok .rrd 2
    | 5 => .ok .rld 2
    | _ => .unknown .ed op

/-- The ED map (R269). -/
def decodeEd (op : Nat) (bs : List Byte) : Decoded :=
  match op with
  | 0xA0 => .ok .ldi 2
  | 0xA1 => .ok .cpi 2
  | 0xA2 => .ok .ini 2
  | 0xA3 => .ok .outi 2
  | 0xA8 => .ok .ldd 2
  | 0xA9 => .ok .cpd 2
  | 0xAA => .ok .ind 2
  | 0xAB => .ok .outd 2
  | 0xB0 => .ok .ldir 2
  | 0xB1 => .ok .cpir 2
  | 0xB2 => .ok .inir 2
  | 0xB3 => .ok .otir 2
  | 0xB8 => .ok .lddr 2
  | 0xB9 => .ok .cpdr 2
  | 0xBA => .ok .indr 2
  | 0xBB => .ok .otdr 2
  | _ => if op / 64 = 1 then decodeEd1 op (op / 8 % 8) (op % 8) bs else .unknown .ed op

/-- The map named by an index prefix byte (R258). -/
def IndexReg.map (ii : IndexReg) : OpMap := ii.pick .dd .fd

/-- The sub-map DDCB or FDCB (R258). -/
def IndexReg.cbMap (ii : IndexReg) : OpMap := ii.pick .ddcb .fdcb

/-- The DD and FD maps, the CB sub-map apart (R270). -/
def decodeIdx (ii : IndexReg) (op : Nat) (bs : List Byte) : Decoded :=
  match op with
  | 0x09 | 0x19 | 0x29 | 0x39 => .ok (ii.pick (.addIxPp (rpiOf (op / 16))) (.addIyPp (rpiOf (op / 16)))) 2
  | 0x21 => withNn bs fun nn => .ok (ii.pick (.ldIxNn nn) (.ldIyNn nn)) 4
  | 0x22 => withNn bs fun nn => .ok (ii.pick (.ldMemIx nn) (.ldMemIy nn)) 4
  | 0x2A => withNn bs fun nn => .ok (ii.pick (.ldIxMem nn) (.ldIyMem nn)) 4
  | 0x23 => .ok (ii.pick .incIx .incIy) 2
  | 0x2B => .ok (ii.pick .decIx .decIy) 2
  | 0x34 => with1 bs fun d => .ok (ii.pick (.incIxd d) (.incIyd d)) 3
  | 0x35 => with1 bs fun d => .ok (ii.pick (.decIxd d) (.decIyd d)) 3
  | 0x36 => with2 bs fun d n => .ok (ii.pick (.ldIxdN d n) (.ldIydN d n)) 4
  | 0xE1 => .ok (ii.pick .popIx .popIy) 2
  | 0xE5 => .ok (ii.pick .pushIx .pushIy) 2
  | 0xE3 => .ok (ii.pick .exSpIx .exSpIy) 2
  | 0xE9 => .ok (ii.pick .jpIx .jpIy) 2
  | 0xF9 => .ok (ii.pick .ldSpIx .ldSpIy) 2
  | _ =>
    match op / 64, reg8? (op / 8 % 8), reg8? (op % 8) with
    | 1, some r, none => with1 bs fun d => .ok (ii.pick (.ldRIxd r d) (.ldRIyd r d)) 3
    | 1, none, some r => with1 bs fun d => .ok (ii.pick (.ldIxdR d r) (.ldIydR d r)) 3
    | 2, _, none => with1 bs fun d => .ok (aluIdx ii (op / 8 % 8) d) 3
    | _, _, _ => .unknown ii.map op

/-- The DDCB and FDCB maps (R271). -/
def decodeIdxCb (ii : IndexReg) (d : Byte) (op : Nat) : Decoded :=
  let y := op / 8 % 8
  if op % 8 = 6 then
    match op / 64 with
    | 0 => match y with
      | 0 => .ok (ii.pick (.rlcIxd d) (.rlcIyd d)) 4
      | 1 => .ok (ii.pick (.rrcIxd d) (.rrcIyd d)) 4
      | 2 => .ok (ii.pick (.rlIxd d) (.rlIyd d)) 4
      | 3 => .ok (ii.pick (.rrIxd d) (.rrIyd d)) 4
      | 4 => .ok (ii.pick (.slaIxd d) (.slaIyd d)) 4
      | 5 => .ok (ii.pick (.sraIxd d) (.sraIyd d)) 4
      | 6 => .ok (ii.pick (.sllIxd d) (.sllIyd d)) 4
      | _ => .ok (ii.pick (.srlIxd d) (.srlIyd d)) 4
    | 1 => .ok (ii.pick (.bitIxd (fin8 y) d) (.bitIyd (fin8 y) d)) 4
    | 2 => .ok (ii.pick (.resIxd (fin8 y) d) (.resIyd (fin8 y) d)) 4
    | _ => .ok (ii.pick (.setIxd (fin8 y) d) (.setIyd (fin8 y) d)) 4
  else .unknown ii.cbMap op

/-- The bytes after an index prefix byte (R258). -/
def decodeIndexed (ii : IndexReg) : List Byte → Decoded
  | 0xCB#8 :: d :: op :: _ => decodeIdxCb ii d op.toNat
  | b1 :: bs => if b1 = 0xCB then .short else decodeIdx ii b1.toNat bs
  | [] => .short

/-- The Z80 decoder (R258). -/
def decodeZ80 : List Byte → Decoded
  | [] => .short
  | b0 :: bs =>
    if b0 = 0xCB then with1 bs fun op => decodeCb op.toNat
    else if b0 = 0xED then
      match bs with
      | op :: bs' => decodeEd op.toNat bs'
      | [] => .short
    else if b0 = 0xDD then decodeIndexed .ix bs
    else if b0 = 0xFD then decodeIndexed .iy bs
    else decodePrimary b0.toNat bs

/-- How many of an instruction's bytes are M1 fetches: opcode and prefix bytes read with fetchM1 (R257, R258). -/
def m1Fetches (b0 : Byte) : Nat :=
  if b0 = 0xCB ∨ b0 = 0xED ∨ b0 = 0xDD ∨ b0 = 0xFD then 2 else 1

/-! ### 68000 operand fields -/

/-- Bits hi down to lo of an operation word (R21). -/
def fieldOf (w : Word) (hi lo : Nat) : Nat := w.toNat / 2 ^ lo % 2 ^ (hi - lo + 1)

/-- The register number whose lowest bit is `lo`. -/
def regAt (w : Word) (lo : Nat) : Fin 8 := fin8 (w.toNat / 2 ^ lo)

/-- The standard size field's codes; 11 selects another instruction (R281). -/
def sizeOf : Nat → Size
  | 0 => .b
  | 1 => .w
  | _ => .l

/-- The standard size field. -/
def Size.code : Size → Nat
  | .b => 0
  | .w => 1
  | .l => 2

/-- A one-bit size field: 0 word, 1 long (R281). -/
def sizeWL : Nat → Size
  | 0 => .w
  | _ => .l

/-- The one-bit size field. -/
def Size.codeWL : Size → Nat
  | .l => 1
  | _ => 0

/-- The conditions cccc (10_state.md R73). -/
def cond16Of : Nat → Cond16
  | 0 => .t
  | 1 => .f
  | 2 => .hi
  | 3 => .ls
  | 4 => .cc
  | 5 => .cs
  | 6 => .ne
  | 7 => .eq
  | 8 => .vc
  | 9 => .vs
  | 10 => .pl
  | 11 => .mi
  | 12 => .ge
  | 13 => .lt
  | 14 => .gt
  | _ => .le

/-- The condition's code. -/
def Cond16.code : Cond16 → Nat
  | .t => 0
  | .f => 1
  | .hi => 2
  | .ls => 3
  | .cc => 4
  | .cs => 5
  | .ne => 6
  | .eq => 7
  | .vc => 8
  | .vs => 9
  | .pl => 10
  | .mi => 11
  | .ge => 12
  | .lt => 13
  | .gt => 14
  | .le => 15

/-- The EA categories of the row constraints (R282). -/
inductive EaCat | all | data | dataNi | dalt | malt | alt | ctrl | caltPd | ctrlPi
deriving DecidableEq, Repr

/-- `ea(m,r) in CAT` (R253, R277, R282). -/
def eaIn (cat : EaCat) (m r : Nat) : Bool :=
  let isAll := m < 7 || r < 5
  let isAlt := m < 7 || r < 2
  let isCtrl := m == 2 || m == 5 || m == 6 || (m == 7 && r < 4)
  match cat with
  | .all => isAll
  | .data => isAll && m != 1
  | .dataNi => isAll && m != 1 && !(m == 7 && r == 4)
  | .alt => isAlt
  | .dalt => isAlt && m != 1
  | .malt => isAlt && m != 0 && m != 1
  | .ctrl => isCtrl
  | .caltPd => (isCtrl && isAlt) || m == 4
  | .ctrlPi => isCtrl || m == 3

/-- The brief extension word (R278); its bits 10:8 are ignored. -/
def indexOf (w : Word) : IndexX × Byte :=
  (⟨w.getLsbD 15, regAt w 12, w.getLsbD 11⟩, w.truncate 8)

/-- The brief extension word of an index register and displacement, bits 10:8 zero. -/
def IndexX.word (x : IndexX) (d : Byte) : Word :=
  BitVec.ofNat 16 (x.isAddr.toNat * 0x8000 + x.reg.val * 0x1000 + x.long.toNat * 0x800 + d.toNat)

/-- Reads an immediate of a size: one word (its low byte for B), or two words, high first (R280). -/
def readImm (sz : Size) : List Word → Option (Long × List Word)
  | w :: ext =>
    match sz, ext with
    | .b, _ => some ((w.truncate 8).zeroExtend 32, ext)
    | .w, _ => some (w.zeroExtend 32, ext)
    | .l, lo :: ext' => some (w ++ lo, ext')
    | .l, [] => none
  | [] => none

/-- The extension words of an immediate. -/
def immWords (sz : Size) (v : Long) : List Word :=
  match sz with
  | .b | .w => [v.truncate 16]
  | .l => [(v >>> 16).truncate 16, v.truncate 16]

/-- Reads the effective address of mode `m` and register `r` with its extension words (R277, R279). -/
def readEa (m r : Nat) (sz : Size) (ext : List Word) : Option (Ea × List Word) :=
  match m with
  | 0 => some (.dreg (fin8 r), ext)
  | 1 => some (.areg (fin8 r), ext)
  | 2 => some (.ind (fin8 r), ext)
  | 3 => some (.postInc (fin8 r), ext)
  | 4 => some (.preDec (fin8 r), ext)
  | 5 => match ext with
    | w :: ext => some (.disp (fin8 r) w, ext)
    | [] => none
  | 6 => match ext with
    | w :: ext => some (.index (fin8 r) (indexOf w).1 (indexOf w).2, ext)
    | [] => none
  | _ => match r, ext with
    | 0, w :: ext => some (.absW w, ext)
    | 1, hi :: lo :: ext => some (.absL (hi ++ lo), ext)
    | 2, w :: ext => some (.pcDisp w, ext)
    | 3, w :: ext => some (.pcIndex (indexOf w).1 (indexOf w).2, ext)
    | 4, ext => match readImm sz ext with
      | some (v, ext) => some (.imm v, ext)
      | none => none
    | _, _ => none

/-- The mode and register numbers of an effective address (R277). -/
def Ea.modeReg : Ea → Nat × Nat
  | .dreg n => (0, n)
  | .areg n => (1, n)
  | .ind n => (2, n)
  | .postInc n => (3, n)
  | .preDec n => (4, n)
  | .disp n _ => (5, n)
  | .index n _ _ => (6, n)
  | .absW _ => (7, 0)
  | .absL _ => (7, 1)
  | .pcDisp _ => (7, 2)
  | .pcIndex _ _ => (7, 3)
  | .imm _ => (7, 4)

/-- The six-bit field, mode above register (R276). -/
def Ea.code (e : Ea) : Nat := e.modeReg.1 * 8 + e.modeReg.2

/-- The MOVE destination field, register above mode, in its place at bits 11:6 (R276). -/
def Ea.dstCode (e : Ea) : Nat := (e.modeReg.2 * 8 + e.modeReg.1) * 64

/-- The extension words of an effective address (R277). -/
def Ea.words (sz : Size) : Ea → List Word
  | .disp _ d => [d]
  | .index _ x d => [x.word d]
  | .absW a => [a]
  | .absL a => [(a >>> 16).truncate 16, a.truncate 16]
  | .pcDisp d => [d]
  | .pcIndex x d => [x.word d]
  | .imm v => immWords sz v
  | _ => []

/-! ### 68000 rows -/

/-- A reader of an instruction: the operation word, then the words after it. -/
abbrev OpReader := Word → List Word → Option (Instr × List Word)

/-- One row of spec/opcode_table.json: the slots `v` with `(v & mask) = value` that satisfy the constraints (R251 to R253). -/
structure OpRow where
  mask : Nat
  value : Nat
  ok : Word → Bool
  read : OpReader

/-- Whether the row installs the slot. -/
def OpRow.installs (row : OpRow) (w : Word) : Bool :=
  (w.toNat &&& row.mask) == row.value && row.ok w

/-- No constraint. -/
def always (_ : Word) : Bool := true

/-- The EA field in a category. -/
def eaOk (cat : EaCat) (w : Word) : Bool := eaIn cat (fieldOf w 5 3) (fieldOf w 2 0)

/-- The size field not 11. -/
def szOk (w : Word) : Bool := fieldOf w 7 6 != 3

/-- Size field not 11 and the EA in a category. -/
def szEaOk (cat : EaCat) (w : Word) : Bool := szOk w && eaOk cat w

/-- As `szEaOk`, and no byte access to An. -/
def szEaNoBA (cat : EaCat) (w : Word) : Bool :=
  szEaOk cat w && !(fieldOf w 7 6 == 0 && fieldOf w 5 3 == 1)

/-- A row without extension words. -/
def plain (k : Word → Instr) : OpReader := fun w ext => some (k w, ext)

/-- One extension word. -/
def ext1 (k : Word → Word → Instr) : OpReader := fun w ext =>
  match ext with
  | x :: ext => some (k w x, ext)
  | [] => none

/-- The EA field and its extension words, at a size the operation word gives. -/
def eaAt (sz : Word → Size) (k : Word → Ea → Instr) : OpReader := fun w ext =>
  match readEa (fieldOf w 5 3) (fieldOf w 2 0) (sz w) ext with
  | some (e, ext) => some (k w e, ext)
  | none => none

/-- Size field 7:6 and the EA. -/
def szEa (k : Size → Word → Ea → Instr) : OpReader :=
  eaAt (fun w => sizeOf (fieldOf w 7 6)) fun w e => k (sizeOf (fieldOf w 7 6)) w e

/-- The EA at a fixed size. -/
def ea (sz : Size) (k : Word → Ea → Instr) : OpReader := eaAt (fun _ => sz) k

/-- An immediate of the size field's size, then the EA (R275). -/
def immEa (k : Size → Long → Ea → Instr) : OpReader := fun w ext =>
  let sz := sizeOf (fieldOf w 7 6)
  match readImm sz ext with
  | some (v, ext) => match readEa (fieldOf w 5 3) (fieldOf w 2 0) sz ext with
    | some (e, ext) => some (k sz v e, ext)
    | none => none
  | none => none

/-- A static bit number word, then the EA (R275, R1004). -/
def bitEa (k : Byte → Ea → Instr) : OpReader := fun w ext =>
  match ext with
  | n :: ext => match readEa (fieldOf w 5 3) (fieldOf w 2 0) .b ext with
    | some (e, ext) => some (k (n.truncate 8) e, ext)
    | none => none
  | [] => none

/-- The MOVEM register mask word, then the EA (R913). -/
def maskEa (k : Size → Word → Ea → Instr) : OpReader := fun w ext =>
  match ext with
  | m :: ext => match readEa (fieldOf w 5 3) (fieldOf w 2 0) (sizeWL (fieldOf w 6 6)) ext with
    | some (e, ext) => some (k (sizeWL (fieldOf w 6 6)) m e, ext)
    | none => none
  | [] => none

/-- MOVE: the source EA, then the destination EA of the swapped field (R275, R276). -/
def moveEa (sz : Size) (k : Ea → Ea → Instr) : OpReader := fun w ext =>
  match readEa (fieldOf w 5 3) (fieldOf w 2 0) sz ext with
  | some (s, ext) => match readEa (fieldOf w 8 6) (fieldOf w 11 9) sz ext with
    | some (d, ext) => some (k s d, ext)
    | none => none
  | none => none

/-- The MOVE constraints on the two EA fields (R284). -/
def moveOk (w : Word) : Bool := eaIn .dalt (fieldOf w 8 6) (fieldOf w 11 9) && eaOk .all w

/-- The displacement byte, or the displacement word when it is 0x00 (47 R1102). -/
def branch (k : Word → BrDisp → Instr) : OpReader := fun w ext =>
  let d : Byte := w.truncate 8
  if d = 0 then
    match ext with
    | x :: ext => some (k w (.word x), ext)
    | [] => none
  else some (k w (.short d), ext)

/-- The field oo of MOVEP (R914). -/
def movepOf : Nat → MovepMode
  | 0 => .wToReg
  | 1 => .lToReg
  | 2 => .wToMem
  | _ => .lToMem

/-- The field oo. -/
def MovepMode.code : MovepMode → Nat
  | .wToReg => 0
  | .lToReg => 1
  | .wToMem => 2
  | .lToMem => 3

/-- The field M of ADDX, SUBX, ABCD, SBCD. -/
def xformOf : Nat → XForm
  | 0 => .regs
  | _ => .mem

/-- The field M. -/
def XForm.code : XForm → Nat
  | .regs => 0
  | .mem => 1

/-- Count field of a register shift: bit 5 chooses Dn or the field ccc (R1003). -/
def shiftCountAt (w : Word) : ShiftCount :=
  if fieldOf w 5 5 = 0 then .imm (regAt w 9) else .reg (regAt w 9)

/-- The bits 11:9 and 5 of a register shift. -/
def ShiftCount.code : ShiftCount → Nat
  | .imm q => q.val * 512
  | .reg n => n.val * 512 + 32

/-- Register shifts and rotates. -/
def shiftReg (k : Size → ShiftCount → Fin 8 → Instr) : OpReader :=
  plain fun w => k (sizeOf (fieldOf w 7 6)) (shiftCountAt w) (regAt w 0)

/-- Line 0000 (R283, R284). -/
def rows0 : List OpRow := [
  ⟨0xFF00, 0x0000, szEaOk .dalt, immEa .oriEa⟩,
  ⟨0xFFFF, 0x003C, always, ext1 fun _ x => .oriCcr (x.truncate 8)⟩,
  ⟨0xFFFF, 0x007C, always, ext1 fun _ x => .oriSr x⟩,
  ⟨0xFF00, 0x0200, szEaOk .dalt, immEa .andiEa⟩,
  ⟨0xFFFF, 0x023C, always, ext1 fun _ x => .andiCcr (x.truncate 8)⟩,
  ⟨0xFFFF, 0x027C, always, ext1 fun _ x => .andiSr x⟩,
  ⟨0xFF00, 0x0400, szEaOk .dalt, immEa .subiEa⟩,
  ⟨0xFF00, 0x0600, szEaOk .dalt, immEa .addiEa⟩,
  ⟨0xFF00, 0x0A00, szEaOk .dalt, immEa .eoriEa⟩,
  ⟨0xFFFF, 0x0A3C, always, ext1 fun _ x => .eoriCcr (x.truncate 8)⟩,
  ⟨0xFFFF, 0x0A7C, always, ext1 fun _ x => .eoriSr x⟩,
  ⟨0xFF00, 0x0C00, szEaOk .dalt, immEa .cmpiEa⟩,
  ⟨0xFFC0, 0x0800, eaOk .dataNi, bitEa .btstN⟩,
  ⟨0xFFC0, 0x0840, eaOk .dalt, bitEa .bchgN⟩,
  ⟨0xFFC0, 0x0880, eaOk .dalt, bitEa .bclrN⟩,
  ⟨0xFFC0, 0x08C0, eaOk .dalt, bitEa .bsetN⟩,
  ⟨0xF1C0, 0x0100, eaOk .data, ea .b fun w e => .btstD (regAt w 9) e⟩,
  ⟨0xF1C0, 0x0140, eaOk .dalt, ea .b fun w e => .bchgD (regAt w 9) e⟩,
  ⟨0xF1C0, 0x0180, eaOk .dalt, ea .b fun w e => .bclrD (regAt w 9) e⟩,
  ⟨0xF1C0, 0x01C0, eaOk .dalt, ea .b fun w e => .bsetD (regAt w 9) e⟩,
  ⟨0xF138, 0x0108, always, ext1 fun w d => .movep (movepOf (fieldOf w 7 6)) (regAt w 9) (regAt w 0) d⟩]

/-- Line 0001: MOVE.B. -/
def rows1 : List OpRow := [
  ⟨0xF000, 0x1000, fun w => moveOk w && fieldOf w 5 3 != 1, moveEa .b .moveB⟩]

/-- Line 0010: MOVE.L, MOVEA.L. -/
def rows2 : List OpRow := [
  ⟨0xF000, 0x2000, moveOk, moveEa .l .moveL⟩,
  ⟨0xF1C0, 0x2040, eaOk .all, ea .l fun w e => .moveaL e (regAt w 9)⟩]

/-- Line 0011: MOVE.W, MOVEA.W. -/
def rows3 : List OpRow := [
  ⟨0xF000, 0x3000, moveOk, moveEa .w .moveW⟩,
  ⟨0xF1C0, 0x3040, eaOk .all, ea .w fun w e => .moveaW e (regAt w 9)⟩]

/-- Line 0100. -/
def rows4 : List OpRow := [
  ⟨0xFF00, 0x4000, szEaOk .dalt, szEa fun sz _ e => .negx sz e⟩,
  ⟨0xFFC0, 0x40C0, eaOk .dalt, ea .w fun _ e => .moveFromSr e⟩,
  ⟨0xFF00, 0x4200, szEaOk .dalt, szEa fun sz _ e => .clr sz e⟩,
  ⟨0xFF00, 0x4400, szEaOk .dalt, szEa fun sz _ e => .negEa sz e⟩,
  ⟨0xFFC0, 0x44C0, eaOk .data, ea .w fun _ e => .moveToCcr e⟩,
  ⟨0xFF00, 0x4600, szEaOk .dalt, szEa fun sz _ e => .notEa sz e⟩,
  ⟨0xFFC0, 0x46C0, eaOk .data, ea .w fun _ e => .moveToSr e⟩,
  ⟨0xFFC0, 0x4800, eaOk .dalt, ea .b fun _ e => .nbcd e⟩,
  ⟨0xFFF8, 0x4840, always, plain fun w => .swap (regAt w 0)⟩,
  ⟨0xFFC0, 0x4840, eaOk .ctrl, ea .l fun _ e => .pea e⟩,
  ⟨0xFFB8, 0x4880, always, plain fun w => .ext (sizeWL (fieldOf w 6 6)) (regAt w 0)⟩,
  ⟨0xFF80, 0x4880, eaOk .caltPd, maskEa .movemStore⟩,
  ⟨0xFF00, 0x4A00, szEaOk .dalt, szEa fun sz _ e => .tst sz e⟩,
  ⟨0xFFC0, 0x4AC0, eaOk .dalt, ea .b fun _ e => .tas e⟩,
  ⟨0xFFFF, 0x4AFC, always, plain fun _ => .illegal⟩,
  ⟨0xFF80, 0x4C80, eaOk .ctrlPi, maskEa .movemLoad⟩,
  ⟨0xFFF0, 0x4E40, always, plain fun w => .trap ⟨w.toNat % 16, Nat.mod_lt _ (by decide)⟩⟩,
  ⟨0xFFF8, 0x4E50, always, ext1 fun w d => .link (regAt w 0) d⟩,
  ⟨0xFFF8, 0x4E58, always, plain fun w => .unlk (regAt w 0)⟩,
  ⟨0xFFF8, 0x4E60, always, plain fun w => .moveAnUsp (regAt w 0)⟩,
  ⟨0xFFF8, 0x4E68, always, plain fun w => .moveUspAn (regAt w 0)⟩,
  ⟨0xFFFF, 0x4E70, always, plain fun _ => .reset⟩,
  ⟨0xFFFF, 0x4E71, always, plain fun _ => .nopM⟩,
  ⟨0xFFFF, 0x4E72, always, ext1 fun _ x => .stop x⟩,
  ⟨0xFFFF, 0x4E73, always, plain fun _ => .rte⟩,
  ⟨0xFFFF, 0x4E75, always, plain fun _ => .rts⟩,
  ⟨0xFFFF, 0x4E76, always, plain fun _ => .trapv⟩,
  ⟨0xFFFF, 0x4E77, always, plain fun _ => .rtr⟩,
  ⟨0xFFC0, 0x4E80, eaOk .ctrl, ea .l fun _ e => .jsr e⟩,
  ⟨0xFFC0, 0x4EC0, eaOk .ctrl, ea .l fun _ e => .jmp e⟩,
  ⟨0xF1C0, 0x4180, eaOk .data, ea .w fun w e => .chk e (regAt w 9)⟩,
  ⟨0xF1C0, 0x41C0, eaOk .ctrl, ea .l fun w e => .lea e (regAt w 9)⟩]

/-- Line 0101. -/
def rows5 : List OpRow := [
  ⟨0xF100, 0x5000, szEaNoBA .alt, szEa fun sz w e => .addq (regAt w 9) sz e⟩,
  ⟨0xF100, 0x5100, szEaNoBA .alt, szEa fun sz w e => .subq (regAt w 9) sz e⟩,
  ⟨0xF0C0, 0x50C0, eaOk .dalt, ea .b fun w e => .scc (cond16Of (fieldOf w 11 8)) e⟩,
  ⟨0xF0F8, 0x50C8, always, ext1 fun w d => .dbcc (cond16Of (fieldOf w 11 8)) (regAt w 0) d⟩]

/-- Line 0110: BRA, BSR, Bcc. -/
def rows6 : List OpRow := [
  ⟨0xFF00, 0x6000, always, branch fun _ d => .bra d⟩,
  ⟨0xFF00, 0x6100, always, branch fun _ d => .bsr d⟩,
  ⟨0xF000, 0x6000, fun w => fieldOf w 11 8 ≥ 2, branch fun w d => .bcc (cond16Of (fieldOf w 11 8)) d⟩]

/-- Line 0111: MOVEQ. -/
def rows7 : List OpRow := [
  ⟨0xF100, 0x7000, always, plain fun w => .moveq (w.truncate 8) (regAt w 9)⟩]

/-- Line 1000: OR, DIVU, DIVS, SBCD. -/
def rows8 : List OpRow := [
  ⟨0xF100, 0x8000, szEaOk .data, szEa fun sz w e => .orEaD sz e (regAt w 9)⟩,
  ⟨0xF100, 0x8100, szEaOk .malt, szEa fun sz w e => .orDEa sz (regAt w 9) e⟩,
  ⟨0xF1C0, 0x80C0, eaOk .data, ea .w fun w e => .divu e (regAt w 9)⟩,
  ⟨0xF1C0, 0x81C0, eaOk .data, ea .w fun w e => .divs e (regAt w 9)⟩,
  ⟨0xF1F0, 0x8100, always, plain fun w => .sbcd (xformOf (fieldOf w 3 3)) (regAt w 0) (regAt w 9)⟩]

/-- Line 1001: SUB, SUBA, SUBX. -/
def rows9 : List OpRow := [
  ⟨0xF100, 0x9000, szEaNoBA .all, szEa fun sz w e => .subEaD sz e (regAt w 9)⟩,
  ⟨0xF100, 0x9100, szEaOk .malt, szEa fun sz w e => .subDEa sz (regAt w 9) e⟩,
  ⟨0xF0C0, 0x90C0, eaOk .all, eaAt (fun w => sizeWL (fieldOf w 8 8)) fun w e => .suba (sizeWL (fieldOf w 8 8)) e (regAt w 9)⟩,
  ⟨0xF130, 0x9100, szOk, plain fun w => .subx (sizeOf (fieldOf w 7 6)) (xformOf (fieldOf w 3 3)) (regAt w 0) (regAt w 9)⟩]

/-- Line 1010. -/
def rowsA : List OpRow := [
  ⟨0xF000, 0xA000, always, plain fun w => .lineA (w.truncate 12)⟩]

/-- Line 1011: CMP, CMPA, EOR, CMPM. -/
def rowsB : List OpRow := [
  ⟨0xF100, 0xB000, szEaNoBA .all, szEa fun sz w e => .cmpEaD sz e (regAt w 9)⟩,
  ⟨0xF0C0, 0xB0C0, eaOk .all, eaAt (fun w => sizeWL (fieldOf w 8 8)) fun w e => .cmpa (sizeWL (fieldOf w 8 8)) e (regAt w 9)⟩,
  ⟨0xF100, 0xB100, szEaOk .dalt, szEa fun sz w e => .eorDEa sz (regAt w 9) e⟩,
  ⟨0xF138, 0xB108, szOk, plain fun w => .cmpm (sizeOf (fieldOf w 7 6)) (regAt w 0) (regAt w 9)⟩]

/-- Line 1100: AND, MULU, MULS, ABCD, EXG. -/
def rowsC : List OpRow := [
  ⟨0xF100, 0xC000, szEaOk .data, szEa fun sz w e => .andEaD sz e (regAt w 9)⟩,
  ⟨0xF100, 0xC100, szEaOk .malt, szEa fun sz w e => .andDEa sz (regAt w 9) e⟩,
  ⟨0xF1C0, 0xC0C0, eaOk .data, ea .w fun w e => .mulu e (regAt w 9)⟩,
  ⟨0xF1C0, 0xC1C0, eaOk .data, ea .w fun w e => .muls e (regAt w 9)⟩,
  ⟨0xF1F0, 0xC100, always, plain fun w => .abcd (xformOf (fieldOf w 3 3)) (regAt w 0) (regAt w 9)⟩,
  ⟨0xF1F8, 0xC140, always, plain fun w => .exgDD (regAt w 9) (regAt w 0)⟩,
  ⟨0xF1F8, 0xC148, always, plain fun w => .exgAA (regAt w 9) (regAt w 0)⟩,
  ⟨0xF1F8, 0xC188, always, plain fun w => .exgDA (regAt w 9) (regAt w 0)⟩]

/-- Line 1101: ADD, ADDA, ADDX. -/
def rowsD : List OpRow := [
  ⟨0xF100, 0xD000, szEaNoBA .all, szEa fun sz w e => .addEaD sz e (regAt w 9)⟩,
  ⟨0xF100, 0xD100, szEaOk .malt, szEa fun sz w e => .addDEa sz (regAt w 9) e⟩,
  ⟨0xF0C0, 0xD0C0, eaOk .all, eaAt (fun w => sizeWL (fieldOf w 8 8)) fun w e => .adda (sizeWL (fieldOf w 8 8)) e (regAt w 9)⟩,
  ⟨0xF130, 0xD100, szOk, plain fun w => .addx (sizeOf (fieldOf w 7 6)) (xformOf (fieldOf w 3 3)) (regAt w 0) (regAt w 9)⟩]

/-- Line 1110: shifts and rotates. -/
def rowsE : List OpRow := [
  ⟨0xF118, 0xE000, szOk, shiftReg .asrReg⟩,
  ⟨0xF118, 0xE100, szOk, shiftReg .aslReg⟩,
  ⟨0xF118, 0xE008, szOk, shiftReg .lsrReg⟩,
  ⟨0xF118, 0xE108, szOk, shiftReg .lslReg⟩,
  ⟨0xF118, 0xE010, szOk, shiftReg .roxrReg⟩,
  ⟨0xF118, 0xE110, szOk, shiftReg .roxlReg⟩,
  ⟨0xF118, 0xE018, szOk, shiftReg .rorReg⟩,
  ⟨0xF118, 0xE118, szOk, shiftReg .rolReg⟩,
  ⟨0xFFC0, 0xE0C0, eaOk .malt, ea .w fun _ e => .asrMem e⟩,
  ⟨0xFFC0, 0xE1C0, eaOk .malt, ea .w fun _ e => .aslMem e⟩,
  ⟨0xFFC0, 0xE2C0, eaOk .malt, ea .w fun _ e => .lsrMem e⟩,
  ⟨0xFFC0, 0xE3C0, eaOk .malt, ea .w fun _ e => .lslMem e⟩,
  ⟨0xFFC0, 0xE4C0, eaOk .malt, ea .w fun _ e => .roxrMem e⟩,
  ⟨0xFFC0, 0xE5C0, eaOk .malt, ea .w fun _ e => .roxlMem e⟩,
  ⟨0xFFC0, 0xE6C0, eaOk .malt, ea .w fun _ e => .rorMem e⟩,
  ⟨0xFFC0, 0xE7C0, eaOk .malt, ea .w fun _ e => .rolMem e⟩]

/-- Line 1111. -/
def rowsF : List OpRow := [
  ⟨0xF000, 0xF000, always, plain fun w => .lineF (w.truncate 12)⟩]

/-- The rows of a line, bits 15:12 of the operation word (R283). -/
def lineRows : Nat → List OpRow
  | 0 => rows0
  | 1 => rows1
  | 2 => rows2
  | 3 => rows3
  | 4 => rows4
  | 5 => rows5
  | 6 => rows6
  | 7 => rows7
  | 8 => rows8
  | 9 => rows9
  | 10 => rowsA
  | 11 => rowsB
  | 12 => rowsC
  | 13 => rowsD
  | 14 => rowsE
  | _ => rowsF

/-- The row that installs a slot of the MAIN table (R252, R274). -/
def rowFor (w : Word) : Option OpRow := (lineRows (w.toNat / 0x1000)).find? (·.installs w)

/-- The 68000 decoder on words (R274, R275). -/
def decodeWords : List Word → Decoded
  | [] => .short
  | w :: ext =>
    match rowFor w with
    | none => .unknown .m68k w.toNat
    | some row => match row.read w ext with
      | some (i, rest) => .ok i (2 * (ext.length + 1 - rest.length))
      | none => .short

/-- Bytes as big-endian words; a last odd byte is dropped (R165). -/
def wordsOf : List Byte → List Word
  | hi :: lo :: bs => (hi ++ lo) :: wordsOf bs
  | _ => []

/-- Words as big-endian bytes (R165). -/
def bytesOf : List Word → List Byte
  | w :: ws => (w >>> 8).truncate 8 :: w.truncate 8 :: bytesOf ws
  | [] => []

/-- The decoder of either CPU. -/
def decode (cpu : Cpu) (bytes : List Byte) : Decoded :=
  match cpu with
  | .z80 => decodeZ80 bytes
  | .m68k => decodeWords (wordsOf bytes)

/-! ### The encoder, from the same tables -/

/-- The two bytes of a 16-bit immediate, low byte first (R263). -/
def nnBytes (nn : Word) : List Byte := [nn.truncate 8, (nn >>> 8).truncate 8]

/-- A byte from its fields. -/
def byteOf (n : Nat) : Byte := BitVec.ofNat 8 n

/-- An operation word from its fields. -/
def opWord (n : Nat) : Word := BitVec.ofNat 16 n

/-- One operation word. -/
def opOnly (n : Nat) : List Byte := bytesOf [opWord n]

/-- An operation word and the words after it. -/
def opWith (n : Nat) (ws : List Word) : List Byte := bytesOf (opWord n :: ws)

/-- An operation word, whose low six bits are the EA, and the EA's words. -/
def opEa (n : Nat) (sz : Size) (e : Ea) : List Byte := opWith (n + e.code) (e.words sz)

/-- As `opEa`, with the size field. -/
def opSzEa (n : Nat) (sz : Size) (e : Ea) : List Byte := opEa (n + sz.code * 64) sz e

/-- An immediate instruction: the immediate's words before the EA's (R275). -/
def opImmEa (n : Nat) (sz : Size) (v : Long) (e : Ea) : List Byte :=
  opWith (n + sz.code * 64 + e.code) (immWords sz v ++ e.words sz)

/-- A static bit instruction. -/
def opBitEa (n : Nat) (b : Byte) (e : Ea) : List Byte := opWith (n + e.code) (b.zeroExtend 16 :: e.words .b)

/-- MOVE. -/
def opMove (n : Nat) (sz : Size) (s d : Ea) : List Byte :=
  opWith (n + d.dstCode + s.code) (s.words sz ++ d.words sz)

/-- BRA, BSR, Bcc. -/
def opBranch (n : Nat) : BrDisp → List Byte
  | .short d => opOnly (n + d.toNat)
  | .word d => opWith n [d]

/-- ADDX, SUBX, ABCD, SBCD. -/
def opX (n : Nat) (f : XForm) (y x : Fin 8) : List Byte := opOnly (n + x.val * 512 + f.code * 8 + y.val)

/-- Register shifts. -/
def opShift (n : Nat) (sz : Size) (k : ShiftCount) (r : Fin 8) : List Byte :=
  opOnly (n + k.code + sz.code * 64 + r.val)

/-- The bytes of an instruction as the hardware stores them, written from the encodings of spec/opcode_table.json
(R260, R265 to R271, R284). The bits a decoder ignores are 0 (log 12). -/
def encode : Instr → List Byte
  | .nopZ => [0x00]
  | .exAfAf => [0x08]
  | .djnz e => [0x10, e]
  | .jr e => [0x18, e]
  | .jrCc cond e => [byteOf (0x20 + cond.code * 8), e]
  | .ldRpNn p nn => [byteOf (0x01 + p.code * 16)] ++ nnBytes nn
  | .addHlRp p => [byteOf (0x09 + p.code * 16)]
  | .ldIndA p => [byteOf (0x02 + (match p with | .bc => 0 | .de => 1) * 16)]
  | .ldMemHl nn => [0x22] ++ nnBytes nn
  | .ldMemA nn => [0x32] ++ nnBytes nn
  | .ldAInd p => [byteOf (0x0A + (match p with | .bc => 0 | .de => 1) * 16)]
  | .ldHlMem nn => [0x2A] ++ nnBytes nn
  | .ldAMem nn => [0x3A] ++ nnBytes nn
  | .incRp p => [byteOf (0x03 + p.code * 16)]
  | .decRp p => [byteOf (0x0B + p.code * 16)]
  | .incR r => [byteOf (0x04 + r.code * 8)]
  | .incHlInd => [0x34]
  | .decR r => [byteOf (0x05 + r.code * 8)]
  | .decHlInd => [0x35]
  | .ldRN r n => [byteOf (0x06 + r.code * 8), n]
  | .ldHlIndN n => [0x36, n]
  | .rlca => [0x07]
  | .rrca => [0x0F]
  | .rla => [0x17]
  | .rra => [0x1F]
  | .daa => [0x27]
  | .cpl => [0x2F]
  | .scf => [0x37]
  | .ccf => [0x3F]
  | .ldRR r r' => [byteOf (0x40 + r.code * 8 + r'.code)]
  | .ldRHlInd r => [byteOf (0x46 + r.code * 8)]
  | .ldHlIndR r => [byteOf (0x70 + r.code)]
  | .halt => [0x76]
  | .addAR r => [byteOf (0x80 + r.code)]
  | .addAHlInd => [0x86]
  | .addAN n => [0xC6, n]
  | .adcAR r => [byteOf (0x88 + r.code)]
  | .adcAHlInd => [0x8E]
  | .adcAN n => [0xCE, n]
  | .subR r => [byteOf (0x90 + r.code)]
  | .subHlInd => [0x96]
  | .subN n => [0xD6, n]
  | .sbcAR r => [byteOf (0x98 + r.code)]
  | .sbcAHlInd => [0x9E]
  | .sbcAN n => [0xDE, n]
  | .andR r => [byteOf (0xA0 + r.code)]
  | .andHlInd => [0xA6]
  | .andN n => [0xE6, n]
  | .xorR r => [byteOf (0xA8 + r.code)]
  | .xorHlInd => [0xAE]
  | .xorN n => [0xEE, n]
  | .orR r => [byteOf (0xB0 + r.code)]
  | .orHlInd => [0xB6]
  | .orN n => [0xF6, n]
  | .cpR r => [byteOf (0xB8 + r.code)]
  | .cpHlInd => [0xBE]
  | .cpN n => [0xFE, n]
  | .retCc cond => [byteOf (0xC0 + cond.code * 8)]
  | .popRp2 p => [byteOf (0xC1 + p.code * 16)]
  | .ret => [0xC9]
  | .exx => [0xD9]
  | .jpHl => [0xE9]
  | .ldSpHl => [0xF9]
  | .jpCcNn cond nn => [byteOf (0xC2 + cond.code * 8)] ++ nnBytes nn
  | .jpNn nn => [0xC3] ++ nnBytes nn
  | .outNA n => [0xD3, n]
  | .inAN n => [0xDB, n]
  | .exSpHl => [0xE3]
  | .exDeHl => [0xEB]
  | .di => [0xF3]
  | .ei => [0xFB]
  | .callCcNn cond nn => [byteOf (0xC4 + cond.code * 8)] ++ nnBytes nn
  | .pushRp2 p => [byteOf (0xC5 + p.code * 16)]
  | .callNn nn => [0xCD] ++ nnBytes nn
  | .rst y => [byteOf (0xC7 + y.val * 8)]
  | .rlcM z => [0xCB, byteOf (0x00 + z.code)]
  | .rrcM z => [0xCB, byteOf (0x08 + z.code)]
  | .rlM z => [0xCB, byteOf (0x10 + z.code)]
  | .rrM z => [0xCB, byteOf (0x18 + z.code)]
  | .slaM z => [0xCB, byteOf (0x20 + z.code)]
  | .sraM z => [0xCB, byteOf (0x28 + z.code)]
  | .sllM z => [0xCB, byteOf (0x30 + z.code)]
  | .srlM z => [0xCB, byteOf (0x38 + z.code)]
  | .bitM b z => [0xCB, byteOf (0x40 + b.val * 8 + z.code)]
  | .resM b z => [0xCB, byteOf (0x80 + b.val * 8 + z.code)]
  | .setM b z => [0xCB, byteOf (0xC0 + b.val * 8 + z.code)]
  | .inRC r => [0xED, byteOf (0x40 + r.code * 8)]
  | .outCR r => [0xED, byteOf (0x41 + r.code * 8)]
  | .sbcHlRp p => [0xED, byteOf (0x42 + p.code * 16)]
  | .adcHlRp p => [0xED, byteOf (0x4A + p.code * 16)]
  | .ldMemRp p nn => [0xED, byteOf (0x43 + p.code * 16)] ++ nnBytes nn
  | .ldRpMem p nn => [0xED, byteOf (0x4B + p.code * 16)] ++ nnBytes nn
  | .neg => [0xED, 0x44]
  | .retn => [0xED, 0x45]
  | .reti => [0xED, 0x4D]
  | .im0 => [0xED, 0x46]
  | .im1 => [0xED, 0x56]
  | .im2 => [0xED, 0x5E]
  | .ldIA => [0xED, 0x47]
  | .ldRA => [0xED, 0x4F]
  | .ldAI => [0xED, 0x57]
  | .ldAR => [0xED, 0x5F]
  | .rrd => [0xED, 0x67]
  | .rld => [0xED, 0x6F]
  | .ldi => [0xED, 0xA0]
  | .cpi => [0xED, 0xA1]
  | .ini => [0xED, 0xA2]
  | .outi => [0xED, 0xA3]
  | .ldd => [0xED, 0xA8]
  | .cpd => [0xED, 0xA9]
  | .ind => [0xED, 0xAA]
  | .outd => [0xED, 0xAB]
  | .ldir => [0xED, 0xB0]
  | .cpir => [0xED, 0xB1]
  | .inir => [0xED, 0xB2]
  | .otir => [0xED, 0xB3]
  | .lddr => [0xED, 0xB8]
  | .cpdr => [0xED, 0xB9]
  | .indr => [0xED, 0xBA]
  | .otdr => [0xED, 0xBB]
  | .addIxPp p => [0xDD, byteOf (0x09 + p.code * 16)]
  | .ldIxNn nn => [0xDD, 0x21] ++ nnBytes nn
  | .ldMemIx nn => [0xDD, 0x22] ++ nnBytes nn
  | .ldIxMem nn => [0xDD, 0x2A] ++ nnBytes nn
  | .incIx => [0xDD, 0x23]
  | .decIx => [0xDD, 0x2B]
  | .incIxd d => [0xDD, 0x34, d]
  | .decIxd d => [0xDD, 0x35, d]
  | .ldIxdN d n => [0xDD, 0x36, d, n]
  | .ldRIxd r d => [0xDD, byteOf (0x46 + r.code * 8), d]
  | .ldIxdR d r => [0xDD, byteOf (0x70 + r.code), d]
  | .addAIxd d => [0xDD, 0x86, d]
  | .adcAIxd d => [0xDD, 0x8E, d]
  | .subIxd d => [0xDD, 0x96, d]
  | .sbcAIxd d => [0xDD, 0x9E, d]
  | .andIxd d => [0xDD, 0xA6, d]
  | .xorIxd d => [0xDD, 0xAE, d]
  | .orIxd d => [0xDD, 0xB6, d]
  | .cpIxd d => [0xDD, 0xBE, d]
  | .popIx => [0xDD, 0xE1]
  | .pushIx => [0xDD, 0xE5]
  | .exSpIx => [0xDD, 0xE3]
  | .jpIx => [0xDD, 0xE9]
  | .ldSpIx => [0xDD, 0xF9]
  | .addIyPp p => [0xFD, byteOf (0x09 + p.code * 16)]
  | .ldIyNn nn => [0xFD, 0x21] ++ nnBytes nn
  | .ldMemIy nn => [0xFD, 0x22] ++ nnBytes nn
  | .ldIyMem nn => [0xFD, 0x2A] ++ nnBytes nn
  | .incIy => [0xFD, 0x23]
  | .decIy => [0xFD, 0x2B]
  | .incIyd d => [0xFD, 0x34, d]
  | .decIyd d => [0xFD, 0x35, d]
  | .ldIydN d n => [0xFD, 0x36, d, n]
  | .ldRIyd r d => [0xFD, byteOf (0x46 + r.code * 8), d]
  | .ldIydR d r => [0xFD, byteOf (0x70 + r.code), d]
  | .addAIyd d => [0xFD, 0x86, d]
  | .adcAIyd d => [0xFD, 0x8E, d]
  | .subIyd d => [0xFD, 0x96, d]
  | .sbcAIyd d => [0xFD, 0x9E, d]
  | .andIyd d => [0xFD, 0xA6, d]
  | .xorIyd d => [0xFD, 0xAE, d]
  | .orIyd d => [0xFD, 0xB6, d]
  | .cpIyd d => [0xFD, 0xBE, d]
  | .popIy => [0xFD, 0xE1]
  | .pushIy => [0xFD, 0xE5]
  | .exSpIy => [0xFD, 0xE3]
  | .jpIy => [0xFD, 0xE9]
  | .ldSpIy => [0xFD, 0xF9]
  | .rlcIxd d => [0xDD, 0xCB, d, 0x06]
  | .rrcIxd d => [0xDD, 0xCB, d, 0x0E]
  | .rlIxd d => [0xDD, 0xCB, d, 0x16]
  | .rrIxd d => [0xDD, 0xCB, d, 0x1E]
  | .slaIxd d => [0xDD, 0xCB, d, 0x26]
  | .sraIxd d => [0xDD, 0xCB, d, 0x2E]
  | .sllIxd d => [0xDD, 0xCB, d, 0x36]
  | .srlIxd d => [0xDD, 0xCB, d, 0x3E]
  | .bitIxd b d => [0xDD, 0xCB, d, byteOf (0x46 + b.val * 8)]
  | .resIxd b d => [0xDD, 0xCB, d, byteOf (0x86 + b.val * 8)]
  | .setIxd b d => [0xDD, 0xCB, d, byteOf (0xC6 + b.val * 8)]
  | .rlcIyd d => [0xFD, 0xCB, d, 0x06]
  | .rrcIyd d => [0xFD, 0xCB, d, 0x0E]
  | .rlIyd d => [0xFD, 0xCB, d, 0x16]
  | .rrIyd d => [0xFD, 0xCB, d, 0x1E]
  | .slaIyd d => [0xFD, 0xCB, d, 0x26]
  | .sraIyd d => [0xFD, 0xCB, d, 0x2E]
  | .sllIyd d => [0xFD, 0xCB, d, 0x36]
  | .srlIyd d => [0xFD, 0xCB, d, 0x3E]
  | .bitIyd b d => [0xFD, 0xCB, d, byteOf (0x46 + b.val * 8)]
  | .resIyd b d => [0xFD, 0xCB, d, byteOf (0x86 + b.val * 8)]
  | .setIyd b d => [0xFD, 0xCB, d, byteOf (0xC6 + b.val * 8)]
  | .oriEa sz imm ea => opImmEa 0x0000 sz imm ea
  | .oriCcr imm => opWith 0x003C [imm.zeroExtend 16]
  | .oriSr imm => opWith 0x007C [imm]
  | .andiEa sz imm ea => opImmEa 0x0200 sz imm ea
  | .andiCcr imm => opWith 0x023C [imm.zeroExtend 16]
  | .andiSr imm => opWith 0x027C [imm]
  | .subiEa sz imm ea => opImmEa 0x0400 sz imm ea
  | .addiEa sz imm ea => opImmEa 0x0600 sz imm ea
  | .eoriEa sz imm ea => opImmEa 0x0A00 sz imm ea
  | .eoriCcr imm => opWith 0x0A3C [imm.zeroExtend 16]
  | .eoriSr imm => opWith 0x0A7C [imm]
  | .cmpiEa sz imm ea => opImmEa 0x0C00 sz imm ea
  | .btstN n ea => opBitEa 0x0800 n ea
  | .bchgN n ea => opBitEa 0x0840 n ea
  | .bclrN n ea => opBitEa 0x0880 n ea
  | .bsetN n ea => opBitEa 0x08C0 n ea
  | .btstD n ea => opEa (0x0100 + n.val * 512) .b ea
  | .bchgD n ea => opEa (0x0140 + n.val * 512) .b ea
  | .bclrD n ea => opEa (0x0180 + n.val * 512) .b ea
  | .bsetD n ea => opEa (0x01C0 + n.val * 512) .b ea
  | .movep o x y d => opWith (0x0108 + x.val * 512 + o.code * 64 + y.val) [d]
  | .moveB src dst => opMove 0x1000 .b src dst
  | .moveL src dst => opMove 0x2000 .l src dst
  | .moveW src dst => opMove 0x3000 .w src dst
  | .moveaL src n => opEa (0x2040 + n.val * 512) .l src
  | .moveaW src n => opEa (0x3040 + n.val * 512) .w src
  | .negx sz ea => opSzEa 0x4000 sz ea
  | .moveFromSr ea => opEa 0x40C0 .w ea
  | .clr sz ea => opSzEa 0x4200 sz ea
  | .negEa sz ea => opSzEa 0x4400 sz ea
  | .moveToCcr ea => opEa 0x44C0 .w ea
  | .notEa sz ea => opSzEa 0x4600 sz ea
  | .moveToSr ea => opEa 0x46C0 .w ea
  | .nbcd ea => opEa 0x4800 .b ea
  | .swap n => opOnly (0x4840 + n.val)
  | .pea ea => opEa 0x4840 .l ea
  | .ext sz n => opOnly (0x4880 + sz.codeWL * 64 + n.val)
  | .movemStore sz mask ea => opWith (0x4880 + sz.codeWL * 64 + ea.code) (mask :: ea.words sz)
  | .tst sz ea => opSzEa 0x4A00 sz ea
  | .tas ea => opEa 0x4AC0 .b ea
  | .illegal => opOnly 0x4AFC
  | .movemLoad sz mask ea => opWith (0x4C80 + sz.codeWL * 64 + ea.code) (mask :: ea.words sz)
  | .trap v => opOnly (0x4E40 + v.val)
  | .link n d => opWith (0x4E50 + n.val) [d]
  | .unlk n => opOnly (0x4E58 + n.val)
  | .moveAnUsp n => opOnly (0x4E60 + n.val)
  | .moveUspAn n => opOnly (0x4E68 + n.val)
  | .reset => opOnly 0x4E70
  | .nopM => opOnly 0x4E71
  | .stop imm => opWith 0x4E72 [imm]
  | .rte => opOnly 0x4E73
  | .rts => opOnly 0x4E75
  | .trapv => opOnly 0x4E76
  | .rtr => opOnly 0x4E77
  | .jsr ea => opEa 0x4E80 .l ea
  | .jmp ea => opEa 0x4EC0 .l ea
  | .chk ea n => opEa (0x4180 + n.val * 512) .w ea
  | .lea ea n => opEa (0x41C0 + n.val * 512) .l ea
  | .addq q sz ea => opSzEa (0x5000 + q.val * 512) sz ea
  | .subq q sz ea => opSzEa (0x5100 + q.val * 512) sz ea
  | .scc cond ea => opEa (0x50C0 + cond.code * 256) .b ea
  | .dbcc cond n d => opWith (0x50C8 + cond.code * 256 + n.val) [d]
  | .bra d => opBranch 0x6000 d
  | .bsr d => opBranch 0x6100 d
  | .bcc cond d => opBranch (0x6000 + cond.code * 256) d
  | .moveq v n => opOnly (0x7000 + n.val * 512 + v.toNat)
  | .orEaD sz ea n => opSzEa (0x8000 + n.val * 512) sz ea
  | .orDEa sz n ea => opSzEa (0x8100 + n.val * 512) sz ea
  | .divu ea n => opEa (0x80C0 + n.val * 512) .w ea
  | .divs ea n => opEa (0x81C0 + n.val * 512) .w ea
  | .sbcd f y x => opX 0x8100 f y x
  | .subEaD sz ea n => opSzEa (0x9000 + n.val * 512) sz ea
  | .subDEa sz n ea => opSzEa (0x9100 + n.val * 512) sz ea
  | .suba sz ea n => opEa (0x90C0 + n.val * 512 + sz.codeWL * 256) sz ea
  | .subx sz f y x => opX (0x9100 + sz.code * 64) f y x
  | .lineA w => opOnly (0xA000 + w.toNat)
  | .cmpEaD sz ea n => opSzEa (0xB000 + n.val * 512) sz ea
  | .cmpa sz ea n => opEa (0xB0C0 + n.val * 512 + sz.codeWL * 256) sz ea
  | .eorDEa sz n ea => opSzEa (0xB100 + n.val * 512) sz ea
  | .cmpm sz y x => opOnly (0xB108 + x.val * 512 + sz.code * 64 + y.val)
  | .andEaD sz ea n => opSzEa (0xC000 + n.val * 512) sz ea
  | .andDEa sz n ea => opSzEa (0xC100 + n.val * 512) sz ea
  | .mulu ea n => opEa (0xC0C0 + n.val * 512) .w ea
  | .muls ea n => opEa (0xC1C0 + n.val * 512) .w ea
  | .abcd f y x => opX 0xC100 f y x
  | .exgDD x y => opOnly (0xC140 + x.val * 512 + y.val)
  | .exgAA x y => opOnly (0xC148 + x.val * 512 + y.val)
  | .exgDA x y => opOnly (0xC188 + x.val * 512 + y.val)
  | .addEaD sz ea n => opSzEa (0xD000 + n.val * 512) sz ea
  | .addDEa sz n ea => opSzEa (0xD100 + n.val * 512) sz ea
  | .adda sz ea n => opEa (0xD0C0 + n.val * 512 + sz.codeWL * 256) sz ea
  | .addx sz f y x => opX (0xD100 + sz.code * 64) f y x
  | .asrReg sz k n => opShift 0xE000 sz k n
  | .aslReg sz k n => opShift 0xE100 sz k n
  | .lsrReg sz k n => opShift 0xE008 sz k n
  | .lslReg sz k n => opShift 0xE108 sz k n
  | .roxrReg sz k n => opShift 0xE010 sz k n
  | .roxlReg sz k n => opShift 0xE110 sz k n
  | .rorReg sz k n => opShift 0xE018 sz k n
  | .rolReg sz k n => opShift 0xE118 sz k n
  | .asrMem ea => opEa 0xE0C0 .w ea
  | .aslMem ea => opEa 0xE1C0 .w ea
  | .lsrMem ea => opEa 0xE2C0 .w ea
  | .lslMem ea => opEa 0xE3C0 .w ea
  | .roxrMem ea => opEa 0xE4C0 .w ea
  | .roxlMem ea => opEa 0xE5C0 .w ea
  | .rorMem ea => opEa 0xE6C0 .w ea
  | .rolMem ea => opEa 0xE7C0 .w ea
  | .lineF w => opOnly (0xF000 + w.toNat)

/-- The instruction read from `w`, whose bits are numbered as spec/opcode_table.json numbers them. The table gives a Z80 row
the 8 bits of its last opcode byte and a 68000 row the 16 bits of its operation word: a number of at most 8 bits is a
byte of the PRIMARY map followed by zeros; a wider one is 68000 words, the first in the low 16 bits (log 8). -/
def tableBytes (nbits w : Nat) : Cpu × List Byte :=
  if nbits ≤ 8 then (.z80, [byteOf w, 0, 0, 0])
  else (.m68k, bytesOf [opWord w, opWord (w / 2 ^ 16), opWord (w / 2 ^ 32), opWord (w / 2 ^ 48), opWord (w / 2 ^ 64)])

/-- The host's question: the instruction this decoder reads from the table's bits. -/
def decodeTableWord (nbits w : Nat) : Option Instr :=
  match decode (tableBytes nbits w).1 (tableBytes nbits w).2 with
  | .ok i _ => some i
  | _ => none

end Sys2Proof
end

