-- ==== Sys2Proof/Machine/Fetch.lean ====
section
/-! DEFINITION. Fetching an instruction's bytes and moving past them (30_encoding.md R257 to R259, R274, R275; log 13), and
placing an instruction where the next step fetches it (logs 8, 9). -/

namespace Sys2Proof.Machine

/-- The condition an empty slot raises (30_encoding.md R254). The bytes never end inside an instruction, so `short` is never
met: `fetchZ80` and `fetchM68k` read the longest instruction. -/
def decodedOr (d : Decoded) : Except Fault (Instr × Nat) :=
  match d with
  | .ok i len => .ok (i, len)
  | .unknown map opcode => .error (.unknownOpcode map opcode)
  | .short => .error (.unknownOpcode .m68k 0)

/-- The four bytes at the Z80's PC, the longest instruction (R260). -/
def bytesZ80 (s : State) : List Byte :=
  [readZ8 s s.z.pc, readZ8 s (s.z.pc + 1), readZ8 s (s.z.pc + 2), readZ8 s (s.z.pc + 3)]

/-- The Z80 instruction at PC, with its length. -/
def fetchZ80 (s : State) : Except Fault (Instr × Nat) := decodedOr (decodeZ80 (bytesZ80 s))

/-- R after `n` opcode or prefix fetches (R257). -/
def bumpTimes (n : Nat) (r : Byte) : Byte :=
  match n with
  | 0 => r
  | k + 1 => bumpTimes k (bumpR r)

/-- Past a Z80 instruction: PC at the next one (R259), R counted once per opcode or prefix byte (R257). -/
def advanceZ80 (s : State) (len : Nat) : State :=
  s.setZ { s.z with
    pc := s.z.pc + BitVec.ofNat 16 len
    r := bumpTimes (m1Fetches (readZ8 s s.z.pc)) s.z.r }

/-- The word at a 68000 address, aligned. -/
def wordAt (s : State) (addr : Long) : Word := readM16 s.bus (busAddr addr)

/-- The five words at the 68000's PC, the longest instruction (R275). -/
def wordsM68k (s : State) : List Word :=
  [wordAt s s.m.pc, wordAt s (s.m.pc + 2), wordAt s (s.m.pc + 4), wordAt s (s.m.pc + 6), wordAt s (s.m.pc + 8)]

/-- The 68000 instruction at PC, with its length: an odd PC raises (R274). -/
def fetchM68k (s : State) : Except Fault (Instr × Nat) :=
  if misaligned s.m.pc .w then .error (.misalignedAccess (busAddr s.m.pc)) else decodedOr (decodeWords (wordsM68k s))

/-- Past a 68000 instruction. -/
def advanceM68k (s : State) (len : Nat) : State := setPc s (s.m.pc + BitVec.ofNat 32 len)

/-- The fields `pc0` and PC of a step that starts here (47 R1100). -/
def latchPc0 (s : State) : State := s.setM { s.m with pc0 := s.m.pc }

/-! ### Placing an instruction (the host's question, logs 8 and 9) -/

/-- Bytes written to a memory from an address up. -/
def Memory.writeAll (mem : Memory) (a : Nat) (bytes : List Byte) : Memory :=
  match bytes with
  | [] => mem
  | b :: rest => Memory.writeAll (Memory.write mem a b) (a + 1) rest

/-- The image with bytes at an address, made long enough for them. -/
def Image.withBytes (rom : Option Image) (a : Nat) (bytes : List Byte) : Image :=
  match rom with
  | none => ⟨a + bytes.length, Memory.writeAll [] a bytes⟩
  | some im => ⟨max im.len (a + bytes.length), Memory.writeAll im.cells a bytes⟩

/-- The bus with the bytes of a 68000 instruction at a bus address, and the address: the cartridge image, `zram` through the
bridge or `wram`, whichever backs it, or the image's start where none does. -/
def Bus.placeM68k (b : Bus) (a : Nat) (bytes : List Byte) : Bus × Nat :=
  if a % 2 = 0 ∧ 0xFF0000 ≤ a ∧ a + 10 ≤ 0x1000000 then
    ({ b with wram := Memory.writeAll b.wram (a - 0xFF0000) bytes }, a)
  else if a % 2 = 0 ∧ 0xA00000 ≤ a ∧ a + 10 ≤ 0xA02000 then
    ({ b with zram := Memory.writeAll b.zram (a - 0xA00000) bytes }, a)
  else if a % 2 = 0 ∧ a + 10 ≤ 0x400000 then ({ b with rom := some (Image.withBytes b.rom a bytes) }, a)
  else ({ b with rom := some (Image.withBytes b.rom 0 bytes) }, 0)

/-- The state whose next step fetches and runs these bytes on this CPU: the host's next call is that CPU's, and nothing
pending, halted, stopped or faulted stands before the fetch. -/
def placeInstruction (s : State) (cpu : Cpu) (bytes : List Byte) : State :=
  let host := { s.host with turn := cpu, script := [] }
  match cpu with
  | .z80 =>
    let a := if s.z.pc.toNat + 4 ≤ 0x2000 then s.z.pc.toNat else 0
    { s with
      host := { host with z80Int := false }
      z := { s.z with pc := BitVec.ofNat 16 a, halted := false, nmiPending := false, faulted := none }
      bus := { s.bus with zram := Memory.writeAll s.bus.zram a bytes } }
  | .m68k =>
    let placed := Bus.placeM68k s.bus (busAddr s.m.pc).toNat bytes
    { s with
      host := { host with ipl := 0 }
      m := { s.m with
        pc := if placed.2 = (busAddr s.m.pc).toNat then s.m.pc else BitVec.ofNat 32 placed.2
        stopped := false, nmi7Pending := false, faulted := none }
      bus := placed.1 }

end Sys2Proof.Machine
end

