-- ==== Sys2Proof/Machine/Fatal.lean ====
section
/-! DEFINITION. What a fatal condition leaves (60_exceptions.md R1200 to R1204; logs 7, 21): the CPU `faulted` with the condition,
its registers, flags and hidden state unspecified, and so every byte of memory its instruction could have written; the other
CPU, the rest of memory and the host's side as they were; the condition returned instead of a cycle count. -/

namespace Sys2Proof.Machine

/-! ### A CPU whose registers are unspecified -/

/-- A free long of a draw. -/
def freeLong (draw item : Nat) : Long := Config.freeLong draw item

/-- A free word. -/
def freeWord (draw item : Nat) : Word := (freeLong draw item).extractLsb' 0 16

/-- A free byte. -/
def freeByte (draw item : Nat) : Byte := (freeLong draw item).extractLsb' 0 8

/-- A free flag or bit of hidden state. -/
def freeBool (draw item : Nat) : Bool := (freeLong draw item).getLsbD 0

/-- A free interrupt mode: one of the three (10_state.md R61). -/
def freeIntMode (draw item : Nat) : IntMode :=
  match (freeLong draw item).toNat % 3 with
  | 0 => .im0
  | 1 => .im1
  | _ => .im2

/-- The Z80 that a fatal condition leaves (R1202): nothing of it is specified but `faulted` (R63). -/
def unspecifiedZ80 (draw : Nat) (f : Fault) : Z80 where
  af := freeWord draw 0
  bc := freeWord draw 1
  de := freeWord draw 2
  hl := freeWord draw 3
  afAlt := freeWord draw 4
  bcAlt := freeWord draw 5
  deAlt := freeWord draw 6
  hlAlt := freeWord draw 7
  ix := freeWord draw 8
  iy := freeWord draw 9
  sp := freeWord draw 10
  pc := freeWord draw 11
  wz := freeWord draw 12
  i := freeByte draw 13
  r := freeByte draw 14
  iff1 := freeBool draw 15
  iff2 := freeBool draw 16
  im := freeIntMode draw 17
  halted := freeBool draw 18
  eiDelay := freeBool draw 19
  nmiPending := freeBool draw 20
  faulted := some f

/-- The 68000 that a fatal condition leaves (R1202): nothing of it is specified but `faulted` (R74) and the bits of SR that do
not exist (R72). -/
def unspecifiedM68k (draw : Nat) (f : Fault) : M68k where
  d := Vector.ofFn fun n => freeLong draw n.val
  a := Vector.ofFn fun n => freeLong draw (8 + n.val)
  otherSP := freeLong draw 16
  pc := freeLong draw 17
  pc0 := freeLong draw 18
  sr := freeWord draw 19 &&& srMask
  stopped := freeBool draw 20
  nmi7Pending := freeBool draw 21
  faulted := some f

/-- The bus with the bytes at these 68000 addresses unspecified: RAM alone can hold what was written (20_memory.md R155). -/
def unspecifiedBytes (b : Bus) (draw : Nat) (addrs : List (BitVec 24)) : Bus :=
  match addrs with
  | [] => b
  | a :: rest => unspecifiedBytes (Bus.writeM b a (freeByte draw (64 + a.toNat))) draw rest

/-! ### The end of a step that met a fatal condition -/

/-- A fatal condition of the Z80, none of which is met by an instruction that writes (60 R1201, R1273). -/
def faultZ80 (s : State) (f : Fault) : State := ((s.setZ (unspecifiedZ80 s.draws f)).raised f).drawn

/-- A fatal condition of the 68000; `addrs` are the bytes that the instruction could have written. -/
def faultM68k (s : State) (f : Fault) (addrs : List (BitVec 24)) : State :=
  (((s.setM (unspecifiedM68k s.draws f)).setBus (unspecifiedBytes s.bus s.draws addrs)).raised f).drawn

end Sys2Proof.Machine
end

