-- ==== Sys2Proof/Machine/Interrupts.lean ====
section
/-! DEFINITION. Accepting an interrupt, on both CPUs, and the idle steps (60_exceptions.md R1261, R1270 to R1272). -/

namespace Sys2Proof.Machine

/-! ### Z80 -/

/-- Wakes the Z80 and counts R: the first effect of every acceptance (R1271, R1272). -/
def wakeZ80 (s : State) : State := s.setZ { s.z with halted := false, r := bumpR s.z.r }

/-- NMI acceptance (R1271). -/
def acceptNmi (s : State) : State :=
  let s := wakeZ80 (s.setZ { s.z with nmiPending := false })
  let s := s.setZ { s.z with iff1 := false }
  let s := push16 s s.z.pc
  (s.setZ { s.z with pc := 0x0066, wz := 0x0066 }).took 11

/-- A maskable interrupt is accepted at this step (R1270). -/
def intPendingZ80 (s : State) : Bool := s.host.z80Int && s.z.iff1 && !s.z.eiDelay

/-- What every acceptance of a maskable interrupt does first (R1272). -/
def beginInt (s : State) : State :=
  let s := wakeZ80 s
  (s.setZ { s.z with iff1 := false, iff2 := false }).emit .intAckZ80

/-- The push of PC and the jump of an interrupt entry (R1272). -/
def enterInt (s : State) (target : Word) : State :=
  let s := push16 s s.z.pc
  s.setZ { s.z with pc := target, wz := target }

/-- Mode 0: the byte the device gives is an RST, else the acceptance, its acknowledge already emitted, is fatal (R1272). -/
def acceptIm0 (s : State) : State :=
  let b := s.host.z80IntData
  if b &&& 0xC7 = 0xC7 then (enterInt s ((b &&& 0x38).zeroExtend 16)).took 13 else faultZ80 s (.im0DataNotRst b)

/-- Mode 1 (R1272). -/
def acceptIm1 (s : State) : State := (enterInt s 0x0038).took 13

/-- Mode 2: the target is read after the push (R1272). -/
def acceptIm2 (s : State) : State :=
  let v := pairOf s.z.i s.host.z80IntData
  let s := push16 s s.z.pc
  let target := readZ16 s v
  (s.setZ { s.z with pc := target, wz := target }).took 19

/-- Maskable-interrupt acceptance (R1272). -/
def acceptInt (s : State) : State :=
  match s.z.im with
  | .im0 => acceptIm0 (beginInt s)
  | .im1 => acceptIm1 (beginInt s)
  | .im2 => acceptIm2 (beginInt s)

/-- A halted idle step (R1270). -/
def idleZ80 (s : State) : State := (s.setZ { s.z with r := bumpR s.z.r }).took 4

/-! ### 68000 -/

/-- The level the 68000 accepts at this step, if any (R1261). With the latch set and `m68kIpl` at most the mask it is 7; with
`m68kIpl` above the mask it is `m68kIpl` (log 14). -/
def pendingLevel (s : State) : Option Nat :=
  if s.host.ipl.val > intMask s then some s.host.ipl.val
  else if s.m.nmi7Pending then some 7
  else none

/-- SR.I written. -/
def setIntMask (s : State) (level : Nat) : State :=
  setSr s ((s.m.sr &&& 0xF8FF) ||| BitVec.ofNat 16 (level % 8 * 256))

/-- 68000 interrupt acceptance of a level (R1261). -/
def acceptM68k (s : State) (level : Nat) : Except Fault State := do
  let off ← autovectorOffset level
  let s ← takeException s off s.m.pc
  let s := setIntMask s level
  let s := if level = 7 then s.setM { s.m with nmi7Pending := false } else s
  return s.emit (.intAck68k level)

end Sys2Proof.Machine
end

