-- ==== Sys2Proof/Machine/Stores.lean ====
section
/-! DEFINITION. The bytes of memory a 68000 instruction could write, which a fatal condition of it leaves unspecified
(60_exceptions.md R1202; log 7), at the addresses its meaning computes. -/

namespace Sys2Proof.Machine

/-! ### Runs of bytes -/

/-- The `n` bytes from an address up. -/
def byteRun (a : Long) (n : Nat) : List (BitVec 24) := (List.range n).map fun k => busAddr a + BitVec.ofNat 24 k

/-- The bytes of an operand that is written, none where it is no memory operand. -/
def eaBytes (s : State) (sz : Size) (pw : Long) (e : Ea) : List (BitVec 24) :=
  match destAddr s sz pw e with
  | some a => byteRun a sz.bytes
  | none => []

/-- The bytes of an exception's frame (R1260). -/
def frameBytes (s : State) : List (BitVec 24) := byteRun (supervisorSp s - 6) 6

/-- The frame of an exception that an instruction may take after the side effect of its operand. -/
def frameAfter (s : State) (ea : Ea) : List (BitVec 24) := frameBytes (resolve s .w (firstExt s) ea).2

/-- The bytes of a push of a long (47 R1101). -/
def pushBytes (s : State) : List (BitVec 24) := byteRun (getAn s 7 - 4) 4

/-- The bytes of MOVE's destination, after the side effect of its source (45 R910). -/
def moveBytes (s : State) (sz : Size) (src dst : Ea) : List (BitVec 24) :=
  eaBytes (resolve s sz (firstExt s) src).2 sz (firstExt s) dst

/-- The bytes of the form -(Ay),-(Ax), none of the register form (45 R934; 46 R1050). -/
def extendedBytes (s : State) (sz : Size) (f : XForm) (y x : Fin 8) : List (BitVec 24) :=
  match f with
  | .regs => []
  | .mem => eaBytes (resolve s sz 0 (.preDec y)).2 sz 0 (.preDec x)

/-- The bytes of MOVEM's stores (45 R913). -/
def movemBytes (s : State) (sz : Size) (mask : Word) (ea : Ea) : List (BitVec 24) :=
  let n := sz.bytes * (maskBits mask).length
  match ea with
  | .preDec r => byteRun (getAn s r - BitVec.ofNat 32 n) n
  | e => byteRun (eaAddr s (secondExt s) e) n

/-- The bytes of MOVEP's stores, every other one (45 R914). -/
def movepBytes (s : State) (o : MovepMode) (y : Fin 8) (d : Word) : List (BitVec 24) :=
  let every (n : Nat) := (List.range n).map fun k => busAddr (getAn s y + d.signExtend 32 + BitVec.ofNat 32 (2 * k))
  match o with
  | .wToReg | .lToReg => []
  | .wToMem => every 2
  | .lToMem => every 4

/-! ### The instructions -/

/-- The bytes an instruction could write when it starts in `s`: its stores, and the frame of the exception it takes. A Z80
instruction meets no fatal condition (60 R1273). -/
def storesOf (i : Instr) (s : State) : List (BitVec 24) :=
  let pw := firstExt s
  let frame := frameBytes s
  let trapped := if supervisor s then [] else frame
  match i with
  | .oriEa sz _ ea | .andiEa sz _ ea | .subiEa sz _ ea | .addiEa sz _ ea | .eoriEa sz _ ea | .negx sz ea | .clr sz ea |
    .negEa sz ea | .notEa sz ea | .addq _ sz ea | .subq _ sz ea | .orDEa sz _ ea | .subDEa sz _ ea | .eorDEa sz _ ea |
    .andDEa sz _ ea | .addDEa sz _ ea => eaBytes s sz pw ea
  | .nbcd ea | .tas ea | .scc _ ea => eaBytes s .b pw ea
  | .bchgD _ ea | .bclrD _ ea | .bsetD _ ea => eaBytes s (bitSize ea) pw ea
  | .bchgN _ ea | .bclrN _ ea | .bsetN _ ea => eaBytes s (bitSize ea) (secondExt s) ea
  | .moveFromSr ea | .asrMem ea | .aslMem ea | .lsrMem ea | .lslMem ea | .roxrMem ea | .roxlMem ea | .rorMem ea |
    .rolMem ea => eaBytes s .w pw ea
  | .moveB src dst => moveBytes s .b src dst
  | .moveW src dst => moveBytes s .w src dst
  | .moveL src dst => moveBytes s .l src dst
  | .addx sz f y x | .subx sz f y x => extendedBytes s sz f y x
  | .abcd f y x | .sbcd f y x => extendedBytes s .b f y x
  | .movemStore sz mask ea => movemBytes s sz mask ea
  | .movep o _ y d => movepBytes s o y d
  | .pea _ | .bsr _ | .jsr _ | .link _ _ => pushBytes s
  | .divu ea _ | .divs ea _ | .chk ea _ => frameAfter s ea
  | .trap v => if v.val < 15 then frame else []
  | .trapv => if srV s.m.sr then frame else []
  | .illegal | .lineA _ | .lineF _ => frame
  | .oriSr _ | .andiSr _ | .eoriSr _ | .moveToSr _ | .moveAnUsp _ | .moveUspAn _ | .rte | .stop _ | .reset => trapped
  | .oriCcr _ | .andiCcr _ | .eoriCcr _ | .cmpiEa _ _ _ | .btstN _ _ | .btstD _ _ | .moveaL _ _ | .moveaW _ _ | .moveToCcr _ |
    .swap _ | .ext _ _ | .tst _ _ | .movemLoad _ _ _ | .unlk _ | .nopM | .rts | .rtr | .jmp _ | .lea _ _ | .dbcc _ _ _ |
    .bra _ | .bcc _ _ | .moveq _ _ | .orEaD _ _ _ | .subEaD _ _ _ | .suba _ _ _ | .cmpEaD _ _ _ | .cmpa _ _ _ | .cmpm _ _ _ |
    .andEaD _ _ _ | .mulu _ _ | .muls _ _ | .exgDD _ _ | .exgAA _ _ | .exgDA _ _ | .addEaD _ _ _ | .adda _ _ _ |
    .asrReg _ _ _ | .aslReg _ _ _ | .lsrReg _ _ _ | .lslReg _ _ _ | .roxrReg _ _ _ | .roxlReg _ _ _ | .rorReg _ _ _ |
    .rolReg _ _ _ => []
  | .nopZ | .exAfAf | .djnz _ | .jr _ | .jrCc _ _ | .ldRpNn _ _ | .addHlRp _ | .ldIndA _ | .ldMemHl _ | .ldMemA _ |
    .ldAInd _ | .ldHlMem _ | .ldAMem _ | .incRp _ | .decRp _ | .incR _ | .incHlInd | .decR _ | .decHlInd | .ldRN _ _ |
    .ldHlIndN _ | .rlca | .rrca | .rla | .rra | .daa | .cpl | .scf | .ccf | .ldRR _ _ | .ldRHlInd _ | .ldHlIndR _ | .halt |
    .addAR _ | .addAHlInd | .addAN _ | .adcAR _ | .adcAHlInd | .adcAN _ | .subR _ | .subHlInd | .subN _ | .sbcAR _ |
    .sbcAHlInd | .sbcAN _ | .andR _ | .andHlInd | .andN _ | .xorR _ | .xorHlInd | .xorN _ | .orR _ | .orHlInd | .orN _ |
    .cpR _ | .cpHlInd | .cpN _ | .retCc _ | .popRp2 _ | .ret | .exx | .jpHl | .ldSpHl | .jpCcNn _ _ | .jpNn _ | .outNA _ |
    .inAN _ | .exSpHl | .exDeHl | .di | .ei | .callCcNn _ _ | .pushRp2 _ | .callNn _ | .rst _ | .rlcM _ | .rrcM _ | .rlM _ |
    .rrM _ | .slaM _ | .sraM _ | .sllM _ | .srlM _ | .bitM _ _ | .resM _ _ | .setM _ _ | .inRC _ | .outCR _ | .sbcHlRp _ |
    .adcHlRp _ | .ldMemRp _ _ | .ldRpMem _ _ | .neg | .retn | .reti | .im0 | .im1 | .im2 | .ldIA | .ldRA | .ldAI | .ldAR |
    .rrd | .rld | .ldi | .cpi | .ini | .outi | .ldd | .cpd | .ind | .outd | .ldir | .cpir | .inir | .otir | .lddr | .cpdr |
    .indr | .otdr | .addIxPp _ | .ldIxNn _ | .ldMemIx _ | .ldIxMem _ | .incIx | .decIx | .incIxd _ | .decIxd _ | .ldIxdN _ _ |
    .ldRIxd _ _ | .ldIxdR _ _ | .addAIxd _ | .adcAIxd _ | .subIxd _ | .sbcAIxd _ | .andIxd _ | .xorIxd _ | .orIxd _ |
    .cpIxd _ | .popIx | .pushIx | .exSpIx | .jpIx | .ldSpIx | .addIyPp _ | .ldIyNn _ | .ldMemIy _ | .ldIyMem _ | .incIy |
    .decIy | .incIyd _ | .decIyd _ | .ldIydN _ _ | .ldRIyd _ _ | .ldIydR _ _ | .addAIyd _ | .adcAIyd _ | .subIyd _ |
    .sbcAIyd _ | .andIyd _ | .xorIyd _ | .orIyd _ | .cpIyd _ | .popIy | .pushIy | .exSpIy | .jpIy | .ldSpIy | .rlcIxd _ |
    .rrcIxd _ | .rlIxd _ | .rrIxd _ | .slaIxd _ | .sraIxd _ | .sllIxd _ | .srlIxd _ | .bitIxd _ _ | .resIxd _ _ |
    .setIxd _ _ | .rlcIyd _ | .rrcIyd _ | .rlIyd _ | .rrIyd _ | .slaIyd _ | .sraIyd _ | .sllIyd _ | .srlIyd _ | .bitIyd _ _ |
    .resIyd _ _ | .setIyd _ _ => []

end Sys2Proof.Machine
end

