-- ==== Sys2Proof/Machine/Cycle.lean ====
section
/-! DEFINITION. One step of each CPU and one turn of the host (60_exceptions.md R1262, R1263, R1270; 00_scope.md R10;
log 1). -/

namespace Sys2Proof.Machine

/-! ### The Z80 -/

/-- The end of a Z80 instruction: a fatal condition faults the CPU (R1202). No Z80 instruction meets one (R1273). -/
def endZ80 (u : State) (o : Host.Outcome State Fault Refusal) : Host.Outcome State Fault Refusal :=
  match o with
  | .next t => .next t
  | .fault f => .next (faultZ80 u f)
  | .refused r => .refused r

/-- The Z80's instruction step (R1270): `eiDelay` cleared, then the instruction at PC. An empty slot is fatal. -/
def runZ80 (s : State) : Host.Outcome State Fault Refusal :=
  let s := s.setZ { s.z with eiDelay := false }
  match fetchZ80 s with
  | .ok (i, len) => endZ80 (advanceZ80 s len) (exec i (advanceZ80 s len))
  | .error f => .next (faultZ80 s f)

/-- One Z80 step, in priority order (R1270). A faulted CPU returns its condition again and changes nothing (R1202). -/
def stepZ80 (s : State) : Host.Outcome State Fault Refusal :=
  match s.z.faulted with
  | some f => .next (s.raised f)
  | none =>
    if s.z.nmiPending then .next (acceptNmi s)
    else if intPendingZ80 s then .next (acceptInt s)
    else if s.z.halted then .next (idleZ80 s)
    else runZ80 s

/-! ### The 68000 -/

/-- The privileged instructions (47 R1100). -/
def privileged : Instr → Bool
  | .andiSr _ | .oriSr _ | .eoriSr _ | .moveToSr _ | .moveAnUsp _ | .moveUspAn _ | .rte | .stop _ | .reset => true
  | _ => false

/-- Whether the instruction takes the illegal, line-A, line-F or privilege exception, which is not traced (R1262). -/
def untraced (i : Instr) (s : State) : Bool :=
  match i with
  | .illegal | .lineA _ | .lineF _ => true
  | i => privileged i && !supervisor s

/-- The cycle count of an instruction or an acceptance, the parameter `m68kCycles` (70 R1312; log 6). -/
def countCycles (s : State) : State := (s.took (Config.m68kCycles s.draws)).drawn

/-- A 68000 operation's end as a state: a fatal condition leaves what was before the operation faulted, with the bytes the
operation could have written unspecified (R1202). -/
def settle (s : State) (addrs : List (BitVec 24)) (r : Except Fault State) : State :=
  match r with
  | .ok t => t
  | .error f => faultM68k s f addrs

/-- The trace exception of R1262, when this instruction is traced. -/
def traceAfter (traced : Bool) (s : State) : Except Fault State :=
  if traced then takeException s 0x24 s.m.pc else .ok s

/-- The end of a 68000 instruction that started in `u` and could write `addrs` (R1263): the trace exception, then the cycle
count. A fatal condition of the instruction or of the trace exception faults the CPU instead. -/
def endM68k (traced : Bool) (u : State) (addrs : List (BitVec 24)) (o : Host.Outcome State Fault Refusal) :
    Host.Outcome State Fault Refusal :=
  match o with
  | .next t => .next (settle t (addrs ++ frameBytes t) (do return countCycles (← traceAfter traced t)))
  | .fault f => .next (faultM68k u f addrs)
  | .refused r => .refused r

/-- The 68000's instruction step (R1263). An odd PC and an empty slot are fatal. -/
def runM68k (s : State) : Host.Outcome State Fault Refusal :=
  let s := latchPc0 s
  match fetchM68k s with
  | .ok (i, len) =>
    let u := advanceM68k s len
    endM68k (traceBit s && !untraced i s) u (storesOf i u) (exec i u)
  | .error f => .next (faultM68k s f [])

/-- One 68000 step, in priority order (R1263). A faulted CPU returns its condition again and changes nothing (R1202). -/
def stepM68k (s : State) : Host.Outcome State Fault Refusal :=
  match s.m.faulted with
  | some f => .next (s.raised f)
  | none =>
    match pendingLevel s with
    | some level => .next (settle s (frameBytes s) (do return countCycles (← acceptM68k s level)))
    | none => if s.m.stopped then .next (s.took Config.m68kIdleCycles) else runM68k s

/-! ### The host -/

/-- One `executeOneInstruction()` of a CPU (R10). -/
def stepCpu (cpu : Cpu) (s : State) : Host.Outcome State Fault Refusal :=
  match cpu with
  | .z80 => stepZ80 s
  | .m68k => stepM68k s

/-- One call of the host (R10): it returns a fatal condition only where it meets one. -/
def runCall (c : Call) (s : State) : Host.Outcome State Fault Refusal :=
  match c with
  | .reset .z80 => .next (resetZ80 s.begun)
  | .reset .m68k => .next (settle s.begun [] (resetM68k s.begun))
  | .execute cpu => stepCpu cpu s.begun

/-- The host's next turn: the head of its script, or a step of `turn` with the inputs held (log 1). -/
def hostTurn (s : State) : Host.Outcome State Fault Refusal :=
  match s.host.script with
  | [] => runCall (.execute s.host.turn) s
  | t :: rest => runCall t.call (applyDrives { s with host := { s.host with script := rest } } t.drives)

end Sys2Proof.Machine
end

