-- ==== Sys2Proof/Machine/Step.lean ====
section
/-! DEFINITION. One step of the block, and the host's placing of an instruction. -/

namespace Sys2Proof.Machine

/-- One step: one call that the host makes (00_scope.md R10, R31). -/
def step (s : State) : Host.Outcome State Fault Refusal := hostTurn s

/-- `s` with the instruction that the table's bits name stored where the next step fetches it (logs 8, 9). -/
def State.withFetchWord (s : State) (nbits w : Nat) : State :=
  placeInstruction s (tableBytes nbits w).1 (tableBytes nbits w).2

end Sys2Proof.Machine
end

