-- ==== Sys2Proof/Safety.lean ====
section
/-! DEFINITION. What claims are stated in terms of: the invariant of the block, a step that goes on, what a fatal condition
leaves (60_exceptions.md R1202; log 7), and a 68000 operand that can be accessed, its value, and
what a write to it does (20_memory.md R160 to R163; 45 R902), and the state an exception is taken to (60 R1260). -/

namespace Sys2Proof.Machine

/-- The reserved bits of SR are 0 (10_state.md R72): bits 14, 12, 11, 7, 6 and 5. -/
def srLegal (sr : Word) : Bool := sr &&& ~~~ srMask == 0

/-- The invariant every step keeps: the memories in canonical form and inside their sizes, SR's reserved bits 0. -/
def State.wf (s : State) : Bool := Bus.wf s.bus && srLegal s.m.sr

/-- An access of a size at a location meets no odd word or long address (R163, R902). -/
def Loc.reachable (sz : Size) (l : Loc) : Bool :=
  match l with
  | .mem a => sz == .b || !a.getLsbD 0
  | .dreg _ | .areg _ | .imm _ => true

/-- The value of a reachable location at a size, a memory operand most significant byte first (R160 to R162, R902). -/
def Loc.value (s : State) (sz : Size) (l : Loc) : Long :=
  match l with
  | .dreg n => s.m.d[n] &&& sizeMask sz
  | .areg n => s.m.a[n] &&& sizeMask sz
  | .imm v => v &&& sizeMask sz
  | .mem a =>
    let b (k : BitVec 24) : Byte := Bus.readM s.bus (a.extractLsb' 0 24 + k)
    match sz with
    | .b => (b 0).zeroExtend 32
    | .w => (b 0 ++ b 1).zeroExtend 32
    | .l => (b 0 ++ b 1) ++ (b 2 ++ b 3)

/-- The state after a write of a reachable location (R902): the low part of Dn, all of An with a word sign-extended, or the
bytes of memory. -/
def Loc.put (s : State) (sz : Size) (l : Loc) (v : Long) : State :=
  match l with
  | .dreg n => { s with m := { s.m with d := s.m.d.set n ((s.m.d[n] &&& ~~~ (sizeMask sz)) ||| (v &&& sizeMask sz)) } }
  | .areg n => { s with m := { s.m with a := s.m.a.set n (sextL sz v) } }
  | .mem a => { s with bus := writeMem s.bus a sz v }
  | .imm _ => s

/-- The state after `take Exception(offset, pushedPC)` on an even supervisor stack (R1260): the old SR at the new stack
pointer and the pushed PC two above it, supervisor mode with T = 0, not stopped, PC the long at the vector. -/
def afterException (s : State) (off : Nat) (pushedPC : Long) : State :=
  let ssp := supervisorSp s
  let pushed := writeMem (writeMem s.bus (ssp - 4) .l pushedPC) (ssp - 6) .w (s.m.sr.zeroExtend 32)
  { s with
    bus := pushed
    m := { s.m with
      a := s.m.a.set 7 (ssp - 6)
      otherSP := if s.m.sr.getLsbD 13 then s.m.otherSP else s.m.a[7]
      sr := (s.m.sr ||| 0x2000) &&& 0x7FFF
      stopped := false
      pc := (Loc.mem (BitVec.ofNat 32 off)).value { s with bus := pushed } .l } }

/-- The step goes on: it answers a next state. -/
def Runs (s : State) : Prop := ∃ t, step s = .next t

/-- The condition a CPU is faulted with (10_state.md R63, R74). -/
def faultedWith (cpu : Cpu) (s : State) : Option Fault :=
  match cpu with
  | .z80 => s.z.faulted
  | .m68k => s.m.faulted

/-- `t` is what a fatal condition `c` of `cpu` leaves of `s` (60_exceptions.md R1202; log 7): the CPU is faulted with `c` and
otherwise unspecified, as are the bytes at `addrs` (68000 bus addresses, which reach every byte of RAM); the condition is
returned; the other CPU, the rest of memory, the image, the inputs, the output events and the last cycle count are as they
were. -/
def AfterFatal (cpu : Cpu) (c : Fault) (addrs : List (BitVec 24)) (s t : State) : Prop :=
  faultedWith cpu t = some c ∧ t.fatal = some c ∧
  (match cpu with
    | .z80 => t.m = s.m
    | .m68k => t.z = s.z) ∧
  t.bus.rom = s.bus.rom ∧ t.bus.pads = s.bus.pads ∧
  (∀ a, a ∉ addrs → Bus.readM t.bus a = Bus.readM s.bus a) ∧
  t.host = s.host ∧ t.events = s.events ∧ t.cycles = s.cycles

end Sys2Proof.Machine
end

