-- ==== Sys2Proof/Certificates/Slice0/Obligations.lean ====
section
/-! DEFINITION. The statements for the provers. `exec i s` is called with PC past the instruction and `pc0` at its first word,
as the step calls it (`Obligations.StepRunsZ80`, `Obligations.StepRunsM68k`). An equation `exec i s = .next { s with … }`
names all that the instruction writes: every field it does not name is unchanged. -/

namespace Sys2Proof.Claims

open Sys2Proof Sys2Proof.Machine

/-! ### Vocabulary: the Z80 -/

/-- F has these flags, by the bit positions of 10_state.md R60: S, Z, Y, H, X, P/V, N, C. -/
def Flags8 (f : Byte) (s z y h x pv n c : Bool) : Prop :=
  f.getLsbD 7 = s ∧ f.getLsbD 6 = z ∧ f.getLsbD 5 = y ∧ f.getLsbD 4 = h ∧ f.getLsbD 3 = x ∧ f.getLsbD 2 = pv ∧
    f.getLsbD 1 = n ∧ f.getLsbD 0 = c

/-- `parity` of 00_scope.md R23: the byte has an even number of 1 bits. -/
def evenOnes (b : Byte) : Bool := (List.range 8).countP (fun k => b.getLsbD k) % 2 == 0

/-- The register A. -/
def regA (s : State) : Byte := s.z.af.extractLsb' 8 8

/-- One flag of F, by its bit. -/
def flag (s : State) (k : Nat) : Bool := s.z.af.getLsbD k

/-- The instruction runs: it takes `t` T-states, the Z80 is `z` after it, and nothing else of the state changes. -/
def Z80Next (s : State) (i : Instr) (t : Nat) (z : Z80) : Prop := exec i s = .next { s with z := z, cycles := t }

/-- The instruction runs and stores the byte `v` at the Z80 address `a`; nothing else of memory changes. -/
def Z80Stores (s : State) (i : Instr) (t : Nat) (z : Z80) (a : Word) (v : Byte) : Prop :=
  exec i s = .next { s with z := z, bus := Bus.writeZ s.bus a v, cycles := t }

/-- The instruction runs and stores the word `v` at the Z80 address `a`, low byte first. -/
def Z80StoresWord (s : State) (i : Instr) (t : Nat) (z : Z80) (a v : Word) : Prop :=
  exec i s = .next { s with
    z := z, bus := Bus.writeZ (Bus.writeZ s.bus a (v.extractLsb' 0 8)) (a + 1) (v.extractLsb' 8 8), cycles := t }

/-- The instruction runs and pushes the word `v`: SP is two lower in `z`, the high byte at SP - 1, the low byte at SP - 2. -/
def Z80Pushes (s : State) (i : Instr) (t : Nat) (z : Z80) (v : Word) : Prop :=
  exec i s = .next { s with
    z := { z with sp := s.z.sp - 2 }
    bus := Bus.writeZ (Bus.writeZ s.bus (s.z.sp - 1) (v.extractLsb' 8 8)) (s.z.sp - 2) (v.extractLsb' 0 8), cycles := t }

/-- The byte at a Z80 address. -/
def zByte (s : State) (a : Word) : Byte := Bus.readZ s.bus a

/-- The word at a Z80 address, low byte first. -/
def zWord (s : State) (a : Word) : Word := Bus.readZ s.bus (a + 1) ++ Bus.readZ s.bus a

/-- The address ix + d or iy + d. -/
def indexed (s : State) (ii : IndexReg) (d : Byte) : Word :=
  (match ii with
    | .ix => s.z.ix
    | .iy => s.z.iy) + d.signExtend 16

/-- The Z80 conditions of 10_state.md R64. -/
def zcond (s : State) : Cond8 → Bool
  | .nz => !flag s 6
  | .z => flag s 6
  | .nc => !flag s 0
  | .c => flag s 0
  | .po => !flag s 2
  | .pe => flag s 2
  | .p => !flag s 7
  | .m => flag s 7

/-! ### Z80 arithmetic and logic -/

/-- A becomes A + v + cin with the flags of R401. -/
def AddsToA (s : State) (i : Instr) (v : Byte) (cin : Bool) (wz : Word) (t : Nat) : Prop :=
  let a := regA s
  let r := BitVec.ofNat 8 (a.toNat + v.toNat + cin.toNat)
  ∃ f : Byte,
    Z80Next s i t { s.z with af := r ++ f, wz := wz } ∧
    Flags8 f (r.getLsbD 7) (r == 0) (r.getLsbD 5) (a.getLsbD 4 ^^ v.getLsbD 4 ^^ r.getLsbD 4) (r.getLsbD 3)
      (a.getLsbD 7 == v.getLsbD 7 && a.getLsbD 7 != r.getLsbD 7) false (decide (a.toNat + v.toNat + cin.toNat > 0xFF))

/-- F after the subtraction a - v - cin giving r, with Y and X of `yx` (R402; R417 for a compare). -/
def SubFlags (f a v r : Byte) (cin : Bool) (yx : Byte) : Prop :=
  Flags8 f (r.getLsbD 7) (r == 0) (yx.getLsbD 5) (a.getLsbD 4 ^^ v.getLsbD 4 ^^ r.getLsbD 4) (yx.getLsbD 3)
    (a.getLsbD 7 != v.getLsbD 7 && a.getLsbD 7 != r.getLsbD 7) true (decide ((a.toNat : Int) - v.toNat - cin.toNat < 0))

/-- A becomes a - v - cin with the flags of R402. -/
def SubsToA (s : State) (i : Instr) (a v : Byte) (cin : Bool) (wz : Word) (t : Nat) : Prop :=
  let r := BitVec.ofInt 8 ((a.toNat : Int) - v.toNat - cin.toNat)
  ∃ f : Byte, Z80Next s i t { s.z with af := r ++ f, wz := wz } ∧ SubFlags f a v r cin r

/-- A stays, F is that of A - v with Y and X of v (R417). -/
def Compares8 (s : State) (i : Instr) (v : Byte) (wz : Word) (t : Nat) : Prop :=
  let a := regA s
  ∃ f : Byte, Z80Next s i t { s.z with af := a ++ f, wz := wz } ∧
    SubFlags f a v (BitVec.ofInt 8 ((a.toNat : Int) - v.toNat)) false v

/-- A becomes r with the flags of R404. -/
def LogicToA (s : State) (i : Instr) (r : Byte) (h : Bool) (wz : Word) (t : Nat) : Prop :=
  ∃ f : Byte, Z80Next s i t { s.z with af := r ++ f, wz := wz } ∧
    Flags8 f (r.getLsbD 7) (r == 0) (r.getLsbD 5) h (r.getLsbD 3) (evenOnes r) false false

/-- F after an 8-bit increment of v (R405): C is kept. -/
def IncFlags (s : State) (f v : Byte) : Prop :=
  let r := v + 1
  Flags8 f (r.getLsbD 7) (r == 0) (r.getLsbD 5) (decide (v.toNat % 16 = 15)) (r.getLsbD 3) (decide (v = 0x7F)) false (flag s 0)

/-- F after an 8-bit decrement of v (R405): C is kept. -/
def DecFlags (s : State) (f v : Byte) : Prop :=
  let r := v - 1
  Flags8 f (r.getLsbD 7) (r == 0) (r.getLsbD 5) (decide (v.toNat % 16 = 0)) (r.getLsbD 3) (decide (v = 0x80)) true (flag s 0)

/-- An 8-bit register and F both written, everything else of the Z80 kept. -/
def withRegF (s : State) (r : Reg8) (v f : Byte) : Z80 := setR { s.z with af := regA s ++ f } r v

/-- F alone written. -/
def withF (s : State) (f : Byte) : Z80 := { s.z with af := regA s ++ f }

/-- F after a 16-bit ADD of a and b (R406): S, Z and P/V are kept. -/
def Add16Flags (s : State) (f : Byte) (a b r : Word) : Prop :=
  Flags8 f (flag s 7) (flag s 6) (r.getLsbD 13) (a.getLsbD 12 ^^ b.getLsbD 12 ^^ r.getLsbD 12) (r.getLsbD 11) (flag s 2) false
    (decide (a.toNat + b.toNat > 0xFFFF))

/-! ### Z80 rotates and blocks -/

/-- The result of a rotate or shift, and the bit shifted out (R500). -/
def rotated (k : Shift8) (v : Byte) (c : Bool) : Byte × Bool :=
  match k with
  | .rlc => (v.rotateLeft 1, v.getLsbD 7)
  | .rl => (v <<< 1 ||| (if c then 1 else 0), v.getLsbD 7)
  | .sla => (v <<< 1, v.getLsbD 7)
  | .sll => (v <<< 1 ||| 1, v.getLsbD 7)
  | .rrc => (v.rotateRight 1, v.getLsbD 0)
  | .rr => (v >>> 1 ||| (if c then 0x80 else 0), v.getLsbD 0)
  | .sra => (v.sshiftRight 1, v.getLsbD 0)
  | .srl => (v >>> 1, v.getLsbD 0)

/-- F after a general rotate or shift giving r and the carry c (R502). -/
def RotFlags (f r : Byte) (c : Bool) : Prop :=
  Flags8 f (r.getLsbD 7) (r == 0) (r.getLsbD 5) false (r.getLsbD 3) (evenOnes r) false c

/-- An accumulator rotate (R501): S, Z and P/V are kept. -/
def RotatesA (s : State) (i : Instr) (k : Shift8) : Prop :=
  let r := rotated k (regA s) (flag s 0)
  ∃ f : Byte, Z80Next s i 4 { s.z with af := r.1 ++ f } ∧
    Flags8 f (flag s 7) (flag s 6) (r.1.getLsbD 5) false (r.1.getLsbD 3) (flag s 2) false r.2

/-- A general rotate or shift of every form: registers, (HL), (IX+d), (IY+d) (R502, R503). -/
def RotatesM (s : State) (m : Loc8 → Instr) (ix iy : Byte → Instr) (k : Shift8) : Prop :=
  (∀ r : Reg8, let x := rotated k (getR s.z r) (flag s 0)
    ∃ f : Byte, Z80Next s (m (.reg r)) 8 (withRegF s r x.1 f) ∧ RotFlags f x.1 x.2) ∧
  (let x := rotated k (zByte s s.z.hl) (flag s 0)
    ∃ f : Byte, Z80Stores s (m .hlInd) 15 (withF s f) s.z.hl x.1 ∧ RotFlags f x.1 x.2) ∧
  ∀ (d : Byte) (ii : IndexReg), let a := indexed s ii d
    let x := rotated k (zByte s a) (flag s 0)
    ∃ f : Byte, Z80Stores s (ii.pick (ix d) (iy d)) 23 { withF s f with wz := a } a x.1 ∧ RotFlags f x.1 x.2

/-- PC and WZ of a block instruction after its step, with its T-states: back to the instruction while it repeats (R602). -/
def blockEnd (s : State) (again : Bool) (z : Z80) : Z80 × Nat :=
  if again then ({ z with pc := s.z.pc - 2, wz := s.z.pc - 1 }, 21) else (z, 16)

/-- One step of LDI, LDD, LDIR, LDDR (R602, R603). -/
def BlockMoves (s : State) (i : Instr) (delta : Word) (repeats : Bool) : Prop :=
  let v := zByte s s.z.hl
  let bc := s.z.bc - 1
  let n := v + regA s
  ∃ f : Byte,
    (let e := blockEnd s (repeats && bc != 0)
      { s.z with hl := s.z.hl + delta, de := s.z.de + delta, bc := bc, af := regA s ++ f }
     Z80Stores s i e.2 e.1 s.z.de v) ∧
    Flags8 f (flag s 7) (flag s 6) (n.getLsbD 1) false (n.getLsbD 3) (bc != 0) false (flag s 0)

/-- One step of CPI, CPD, CPIR, CPDR (R602, R604). -/
def BlockCompares (s : State) (i : Instr) (delta : Word) (repeats : Bool) : Prop :=
  let v := zByte s s.z.hl
  let bc := s.z.bc - 1
  let r := regA s - v
  let h := (regA s).getLsbD 4 ^^ v.getLsbD 4 ^^ r.getLsbD 4
  let n := if h then r - 1 else r
  ∃ f : Byte,
    (let e := blockEnd s (repeats && bc != 0 && r != 0)
      { s.z with hl := s.z.hl + delta, bc := bc, wz := s.z.wz + delta, af := regA s ++ f }
     Z80Next s i e.2 e.1) ∧
    Flags8 f (r.getLsbD 7) (r == 0) (n.getLsbD 1) h (n.getLsbD 3) (bc != 0) true (flag s 0)

/-- F after a block input or output: B after its decrement, the byte, and the sum k (R605, R606). -/
def BlockIoFlags (f b v : Byte) (k : Nat) : Prop :=
  Flags8 f (b.getLsbD 7) (b == 0) (b.getLsbD 5) (decide (k > 255)) (b.getLsbD 3) (evenOnes (BitVec.ofNat 8 (k % 8) ^^^ b))
    (v.getLsbD 7) (decide (k > 255))

/-- What `IoRead(port)` answers: the host's answer, or a free value where it lists none (R159). -/
def portIn (s : State) (port : Word) : Byte := (portAnswer s.host.ports port.toNat).getD (Config.z80IoRead port s.draws)

/-- The free values drawn after `IoRead(port)`. -/
def drawsAfterIn (s : State) (port : Word) : Nat :=
  if (portAnswer s.host.ports port.toNat).isSome then s.draws else s.draws + 1

/-- One step of INI, IND, INIR, INDR (R602, R605). -/
def BlockReads (s : State) (i : Instr) (delta : Word) (repeats : Bool) : Prop :=
  let port := s.z.bc
  let v := portIn s port
  let b := port.extractLsb' 8 8 - 1
  let c : Byte := port.extractLsb' 0 8
  ∃ f : Byte,
    (let e := blockEnd s (repeats && b != 0)
      { s.z with hl := s.z.hl + delta, bc := b ++ c, wz := port + delta, af := regA s ++ f }
     exec i s = .next { s with
       z := e.1, bus := Bus.writeZ s.bus s.z.hl v, draws := drawsAfterIn s port, cycles := e.2 }) ∧
    BlockIoFlags f b v (v.toNat + (c + delta.extractLsb' 0 8).toNat)

/-- One step of OUTI, OUTD, OTIR, OTDR (R602, R606): the port has B after the decrement. -/
def BlockWrites (s : State) (i : Instr) (delta : Word) (repeats : Bool) : Prop :=
  let v := zByte s s.z.hl
  let b := s.z.bc.extractLsb' 8 8 - 1
  let port := b ++ s.z.bc.extractLsb' 0 8
  let hl := s.z.hl + delta
  ∃ f : Byte,
    (let e := blockEnd s (repeats && b != 0) { s.z with hl := hl, bc := port, wz := port + delta, af := regA s ++ f }
     exec i s = .next { s with z := e.1, events := s.events ++ [.ioWrite port v], cycles := e.2 }) ∧
    BlockIoFlags f b v (v.toNat + (hl.extractLsb' 0 8 : Byte).toNat)

/-! ### Vocabulary: the 68000 -/

/-- SR has these condition codes, and its bits 15 to 5 are those of `old` (10_state.md R72). -/
def Ccr (sr old : Word) (x n z v c : Bool) : Prop :=
  sr.getLsbD 4 = x ∧ sr.getLsbD 3 = n ∧ sr.getLsbD 2 = z ∧ sr.getLsbD 1 = v ∧ sr.getLsbD 0 = c ∧ sr >>> 5 = old >>> 5

/-- The value below a size, `v & M(sz)` (R900). -/
def low (sz : Size) (v : Long) : Nat := v.toNat % 2 ^ (8 * sz.bytes)

/-- The sign bit at a size (R900). -/
def msb (sz : Size) (v : Long) : Bool := v.getLsbD (8 * sz.bytes - 1)

/-- A value sign-extended from a size (00_scope.md R22). -/
def wide (sz : Size) (v : Long) : Long := (v.extractLsb' 0 (8 * sz.bytes)).signExtend 32

/-- The state with another SR. -/
def withSr (s : State) (sr : Word) : State := { s with m := { s.m with sr := sr } }

/-- The state with another PC. -/
def withPc (s : State) (pc : Long) : State := { s with m := { s.m with pc := pc } }

/-- The state with another A7. -/
def withA7 (s : State) (v : Long) : State := { s with m := { s.m with a := s.m.a.set 7 v } }

/-- A long below A7, and A7 at it (47 R1101). -/
def withPushed (s : State) (v : Long) : State :=
  { withA7 s (s.m.a[7] - 4) with bus := writeMem s.bus (s.m.a[7] - 4) .l v }

/-- An even 32-bit value. -/
def isEven (v : Long) : Bool := !v.getLsbD 0

/-- The location of an operand whose first extension word is at `pw` (45 R901, stated by `Obligations.OperandForms`). -/
def locOf (s : State) (sz : Size) (pw : Long) (ea : Ea) : Loc := (resolve s sz pw ea).1

/-- The state after the side effect of an addressing mode, (An)+ or -(An) (45 R901). -/
def sideOf (s : State) (sz : Size) (pw : Long) (ea : Ea) : State := (resolve s sz pw ea).2

/-- The 68000 conditions of 10_state.md R73, on X N Z V C of SR. -/
def mcond (sr : Word) : Cond16 → Bool
  | .t => true
  | .f => false
  | .hi => !sr.getLsbD 0 && !sr.getLsbD 2
  | .ls => sr.getLsbD 0 || sr.getLsbD 2
  | .cc => !sr.getLsbD 0
  | .cs => sr.getLsbD 0
  | .ne => !sr.getLsbD 2
  | .eq => sr.getLsbD 2
  | .vc => !sr.getLsbD 1
  | .vs => sr.getLsbD 1
  | .pl => !sr.getLsbD 3
  | .mi => sr.getLsbD 3
  | .ge => sr.getLsbD 3 == sr.getLsbD 1
  | .lt => sr.getLsbD 3 != sr.getLsbD 1
  | .gt => !sr.getLsbD 2 && (sr.getLsbD 3 == sr.getLsbD 1)
  | .le => sr.getLsbD 2 || (sr.getLsbD 3 != sr.getLsbD 1)

/-! ### 68000 operands and flags -/

/-- `moveflags` of r at a size: X kept (R909). -/
def MoveFlags (sr old : Word) (sz : Size) (r : Long) : Prop :=
  Ccr sr old (old.getLsbD 4) (msb sz r) (decide (low sz r = 0)) false false

/-- The arithmetic primitives `addf` and `subf` (R905, R906). -/
inductive Arith | add | sub
deriving DecidableEq, Repr

/-- `s` added to, or taken from, `d`, with X (R905, R906). -/
def Arith.result (o : Arith) (sz : Size) (s d : Long) (x : Bool) : Long :=
  match o with
  | .add => BitVec.ofNat 32 (low sz d + low sz s + x.toNat)
  | .sub => BitVec.ofInt 32 ((low sz d : Int) - low sz s - x.toNat)

/-- The carry or borrow. -/
def Arith.carry (o : Arith) (sz : Size) (s d : Long) (x : Bool) : Bool :=
  match o with
  | .add => decide (low sz d + low sz s + x.toNat ≥ 2 ^ (8 * sz.bytes))
  | .sub => decide (low sz s + x.toNat > low sz d)

/-- The signed overflow. -/
def Arith.overflow (o : Arith) (sz : Size) (s d : Long) (x : Bool) : Bool :=
  (match o with
    | .add => msb sz s == msb sz d
    | .sub => msb sz s != msb sz d) && (msb sz d != msb sz (o.result sz s d x))

/-- X, N, Z, V, C of ADD, SUB and their like. -/
def ArithFlags (o : Arith) (sr old : Word) (sz : Size) (s d : Long) : Prop :=
  let r := o.result sz s d false
  Ccr sr old (o.carry sz s d false) (msb sz r) (decide (low sz r = 0)) (o.overflow sz s d false) (o.carry sz s d false)

/-- X, N, Z, V, C of an extended form: Z cleared or kept (R908). -/
def ArithFlagsX (o : Arith) (sr old : Word) (sz : Size) (s d : Long) : Prop :=
  let x := old.getLsbD 4
  let r := o.result sz s d x
  Ccr sr old (o.carry sz s d x) (msb sz r) (decide (low sz r = 0) && old.getLsbD 2) (o.overflow sz s d x) (o.carry sz s d x)

/-- N, Z, V, C of a compare of s with d: X kept (R907). -/
def CompareFlags (sr old : Word) (sz : Size) (s d : Long) : Prop :=
  let r := Arith.result .sub sz s d false
  Ccr sr old (old.getLsbD 4) (msb sz r) (decide (low sz r = 0)) (Arith.overflow .sub sz s d false)
    (Arith.carry .sub sz s d false)

/-- The instruction reads the operand, and writes nothing but SR and what `res` makes of the state after the operand's side
effect and of its value. -/
def ReadsEa (s : State) (i : Instr) (sz : Size) (pw : Long) (ea : Ea) (res : State → Long → State) (fl : Word → Long → Prop) :
    Prop :=
  let l := locOf s sz pw ea
  let u := sideOf s sz pw ea
  let v := l.value u sz
  l.reachable sz = true → ∃ sr, exec i s = .next (withSr (res u v) sr) ∧ fl sr v

/-- The instruction reads the operand and writes `res` of it back to the same location, with SR. -/
def ModifiesEa (s : State) (i : Instr) (sz : Size) (pw : Long) (ea : Ea) (res : Long → Long) (fl : Word → Long → Prop) : Prop :=
  let l := locOf s sz pw ea
  let u := sideOf s sz pw ea
  let v := l.value u sz
  l.reachable sz = true → ∃ sr, exec i s = .next (withSr (l.put u sz (res v)) sr) ∧ fl sr v

/-- The operand after the two decrements of the form -(Ay),-(Ax): the source is read first. The result is written to the second
location, with SR. -/
def ModifiesPre (s : State) (i : Instr) (sz : Size) (y x : Fin 8) (res : Long → Long → Long) (fl : Word → Long → Long → Prop) :
    Prop :=
  let u := sideOf s sz 0 (.preDec y)
  let l := locOf u sz 0 (.preDec x)
  let w := sideOf u sz 0 (.preDec x)
  let a := (locOf s sz 0 (.preDec y)).value u sz
  let b := l.value w sz
  (locOf s sz 0 (.preDec y)).reachable sz = true → l.reachable sz = true →
    ∃ sr, exec i s = .next (withSr (l.put w sz (res a b)) sr) ∧ fl sr a b

/-- The quick data of ADDQ and SUBQ (30_encoding.md R280). -/
def quickOf (q : Fin 8) : Long := if q.val = 0 then 8 else BitVec.ofNat 32 q.val

/-! ### 68000 lists of registers -/

/-- The numbers of the set bits of a mask, rising. -/
def listed (mask : Word) : List Nat := (List.range 16).filter fun k => mask.getLsbD k

/-- How many bits of a mask are set below bit k. -/
def listedBelow (mask : Word) (k : Nat) : Nat := (List.range k).countP fun i => mask.getLsbD i

/-- The register k of the list order: D0 to D7, then A0 to A7 (R913). -/
def numbered (s : State) (k : Nat) : Long := if k < 8 then s.m.d.toList[k]! else s.m.a.toList[k - 8]!

/-- Values stored one after the other, `step` apart, from `a`. -/
def storeAll (b : Bus) (sz : Size) (step : Long) (vs : List Long) (a : Long) : Bus :=
  match vs with
  | [] => b
  | v :: rest => storeAll (writeMem b a sz v) sz step rest (a + step)

/-- Bytes stored two addresses apart from `a` (MOVEP, R914). -/
def storeAlternate (b : Bus) (vs : List Byte) (a : Long) : Bus :=
  match vs with
  | [] => b
  | v :: rest => storeAlternate (Bus.writeM b (a.extractLsb' 0 24) v) rest (a + 2)

/-! ### 68000 shifts, bits and digits -/

/-- What the shift loop carries: the value, X, C, V. -/
structure ShiftOut where
  val : Long
  x : Bool
  c : Bool
  v : Bool
deriving DecidableEq, Repr

/-- One single-bit step at a size (R1002). -/
def shiftOne (kind : ShiftKind) (dir : ShiftDir) (sz : Size) (o : ShiftOut) : ShiftOut :=
  let top := 8 * sz.bytes - 1
  let out := match dir with
    | .left => o.val.getLsbD top
    | .right => o.val.getLsbD 0
  let into := match kind, dir with
    | .ls, _ | .as, .left => false
    | .as, .right => o.val.getLsbD top
    | .ro, _ => out
    | .rox, _ => o.x
  let val := match dir with
    | .left => BitVec.ofNat 32 (low sz (o.val <<< 1) + into.toNat)
    | .right => BitVec.ofNat 32 (o.val.toNat / 2 + into.toNat * 2 ^ top)
  { val := val
    x := match kind with
      | .ro => o.x
      | _ => out
    c := out
    v := o.v || (match kind, dir with
      | .as, .left => val.getLsbD top != o.val.getLsbD top
      | _, _ => false) }

/-- The steps of a count (R1002). -/
def shiftMany (kind : ShiftKind) (dir : ShiftDir) (sz : Size) (cnt : Nat) (o : ShiftOut) : ShiftOut :=
  match cnt with
  | 0 => o
  | k + 1 => shiftOne kind dir sz (shiftMany kind dir sz k o)

/-- `shiftp` of a value: its C before any step is X for ROX and 0 for the others (R1002). -/
def shiftBy (kind : ShiftKind) (dir : ShiftDir) (sz : Size) (cnt : Nat) (v : Long) (x : Bool) : ShiftOut :=
  shiftMany kind dir sz cnt { val := BitVec.ofNat 32 (low sz v), x := x, c := (kind == .rox) && x, v := false }

/-- SR after a shift (R1002). -/
def ShiftFlags (sr old : Word) (sz : Size) (o : ShiftOut) : Prop :=
  Ccr sr old o.x (msb sz o.val) (decide (low sz o.val = 0)) o.v o.c

/-- A register shift of either count form (R1003). -/
def ShiftsReg (s : State) (i : Size → ShiftCount → Fin 8 → Instr) (kind : ShiftKind) (dir : ShiftDir) : Prop :=
  ∀ (sz : Size) (n : Fin 8),
    let shifts (k : ShiftCount) (cnt : Nat) :=
      let o := shiftBy kind dir sz cnt s.m.d[n] (s.m.sr.getLsbD 4)
      ∃ sr, exec (i sz k n) s = .next (withSr ((Loc.dreg n).put s sz o.val) sr) ∧ ShiftFlags sr s.m.sr sz o
    (∀ q : Fin 8, shifts (.imm q) (if q.val = 0 then 8 else q.val)) ∧ ∀ c : Fin 8, shifts (.reg c) (s.m.d[c].toNat % 64)

/-- A memory shift of a word by one (R1003). -/
def ShiftsMem (s : State) (i : Ea → Instr) (kind : ShiftKind) (dir : ShiftDir) : Prop :=
  ∀ ea : Ea, ModifiesEa s (i ea) .w (s.m.pc0 + 2) ea (fun v => (shiftBy kind dir .w 1 v (s.m.sr.getLsbD 4)).val)
    fun sr v => ShiftFlags sr s.m.sr .w (shiftBy kind dir .w 1 v (s.m.sr.getLsbD 4))

/-- SR with Z alone written (R1004). -/
def ZFlag (sr old : Word) (z : Bool) : Prop :=
  Ccr sr old (old.getLsbD 4) (old.getLsbD 3) z (old.getLsbD 1) (old.getLsbD 0)

/-- The decimal sum of R1005, with its carry. -/
def decAdd (s d : Byte) (x : Bool) : Byte × Bool :=
  let r : Int := (s.toNat % 16 : Nat) + (d.toNat % 16 : Nat) + x.toNat
  let r := if r > 9 then r + 6 else r
  let r := r + (s.toNat - s.toNat % 16 : Nat) + (d.toNat - d.toNat % 16 : Nat)
  if r > 0x99 then (BitVec.ofInt 8 (r - 0xA0), true) else (BitVec.ofInt 8 r, false)

/-- The decimal difference d - s - x of R1005, with its borrow. -/
def decSub (s d : Byte) (x : Bool) : Byte × Bool :=
  let r : Int := (d.toNat % 16 : Nat) - (s.toNat % 16 : Nat) - x.toNat
  let r := if r < 0 ∨ r > 9 then r - 6 else r
  let r := r + (d.toNat - d.toNat % 16 : Nat) - (s.toNat - s.toNat % 16 : Nat)
  if r < 0 ∨ r > 0x99 then (BitVec.ofInt 8 (r + 0xA0), true) else (BitVec.ofInt 8 r, false)

/-- SR after a decimal operation giving r and the carry c: N and V have any value (R1005; log 4). -/
def DecFlags16 (sr old : Word) (r : Byte) (c : Bool) : Prop :=
  Ccr sr old c (sr.getLsbD 3) (r == 0 && old.getLsbD 2) (sr.getLsbD 1) c

/-- The low byte of a long. -/
def lowByte (v : Long) : Byte := v.extractLsb' 0 8

/-- The decimal digits of a byte below 100. -/
def bcdOf (k : Nat) : Byte := BitVec.ofNat 8 (k / 10 * 16 + k % 10)

/-- ABCD or SBCD, both forms (R1050, R1051). Two free values are drawn. -/
def Decimal (s : State) (i : XForm → Fin 8 → Fin 8 → Instr) (op : Byte → Byte → Bool → Byte × Bool) : Prop :=
  ∀ y x : Fin 8,
    let e := s.m.sr.getLsbD 4
    (let r := op (lowByte s.m.d[y]) (lowByte s.m.d[x]) e
     ∃ sr, exec (i .regs y x) s =
        .next { withSr ((Loc.dreg x).put s .b (r.1.zeroExtend 32)) sr with draws := s.draws + 2 } ∧
      DecFlags16 sr s.m.sr r.1 r.2) ∧
    (let u := sideOf s .b 0 (.preDec y)
     let l := locOf u .b 0 (.preDec x)
     let w := sideOf u .b 0 (.preDec x)
     let r := op (lowByte ((locOf s .b 0 (.preDec y)).value u .b)) (lowByte (l.value w .b)) e
     ∃ sr, exec (i .mem y x) s = .next { withSr (l.put w .b (r.1.zeroExtend 32)) sr with draws := s.draws + 2 } ∧
      DecFlags16 sr s.m.sr r.1 r.2)

/-! ### 68000 stops -/

/-- The instruction stops with MisalignedAccess at the bus address of `a` (20_memory.md R163). -/
def StopsAt (s : State) (i : Instr) (a : Long) : Prop := exec i s = .fault (.misalignedAccess (a.extractLsb' 0 24))

/-- The instruction stops at its operand where that is a word or long of memory at an odd address. -/
def StopsEa (s : State) (i : Instr) (sz : Size) (pw : Long) (ea : Ea) : Prop :=
  ∀ a, locOf s sz pw ea = .mem a → (Loc.mem a).reachable sz = false → StopsAt s i a

/-- The instruction stops at its first operand, or at its second where the first can be accessed. -/
def StopsBoth (s : State) (i : Instr) (sz : Size) (pw : Long) (e e' : Ea) : Prop :=
  StopsEa s i sz pw e ∧
  ((locOf s sz pw e).reachable sz = true → ∀ a, locOf (sideOf s sz pw e) sz pw e' = .mem a →
    (Loc.mem a).reachable sz = false → StopsAt s i a)

/-! ### 68000 control -/

/-- The state after `writeSR(v)` in supervisor mode: the stacks are exchanged where the new S is 0 (10_state.md R70). -/
def srWritten (s : State) (v : Word) : State :=
  let v := v &&& 0xA71F
  if v.getLsbD 13 then withSr s v
  else { s with m := { s.m with a := s.m.a.set 7 s.m.otherSP, otherSP := s.m.a[7], sr := v } }

/-- The displacement of a branch (R1102). -/
def dispOf : BrDisp → Long
  | .short d => d.signExtend 32
  | .word d => d.signExtend 32

end Sys2Proof.Claims

section Statements

open Sys2Proof Sys2Proof.Machine Sys2Proof.Claims

/-! ### Z80: the register file -/

/-- Z80RegisterFile: a pair is one cell. An 8-bit register reads as its half of its pair, a write of it changes that half alone,
and a read of any register after it gives the byte written or what it gave before (10_state.md R52, R55). Marked in the spec as
its own inference: R55 (general knowledge). -/
def Obligations.Z80RegisterFile : Prop :=
  ∀ (z : Z80) (v : Byte),
    (getR z .a = z.af.extractLsb' 8 8 ∧ getR z .b = z.bc.extractLsb' 8 8 ∧ getR z .c = z.bc.extractLsb' 0 8 ∧
      getR z .d = z.de.extractLsb' 8 8 ∧ getR z .e = z.de.extractLsb' 0 8 ∧ getR z .h = z.hl.extractLsb' 8 8 ∧
      getR z .l = z.hl.extractLsb' 0 8) ∧
    (setR z .a v = { z with af := v ++ z.af.extractLsb' 0 8 } ∧ setR z .b v = { z with bc := v ++ z.bc.extractLsb' 0 8 } ∧
      setR z .c v = { z with bc := z.bc.extractLsb' 8 8 ++ v } ∧ setR z .d v = { z with de := v ++ z.de.extractLsb' 0 8 } ∧
      setR z .e v = { z with de := z.de.extractLsb' 8 8 ++ v } ∧ setR z .h v = { z with hl := v ++ z.hl.extractLsb' 0 8 } ∧
      setR z .l v = { z with hl := z.hl.extractLsb' 8 8 ++ v }) ∧
    ∀ r k : Reg8, getR (setR z r v) k = if k = r then v else getR z k

/-! ### Z80: arithmetic and logic -/

/-- Z80AddAdc: ADD A,s and ADC A,s of every form give A + s (+ C) with all eight flags (40 R401, R408, R410, R411). Marked in
the spec as its own inference: R408, R410, R411 (general knowledge). -/
def Obligations.Z80AddAdc : Prop :=
  ∀ (s : State) (r : Reg8) (n d : Byte),
    let m := zByte s s.z.hl
    let x := indexed s .ix d
    let y := indexed s .iy d
    (AddsToA s (.addAR r) (getR s.z r) false s.z.wz 4 ∧ AddsToA s (.addAN n) n false s.z.wz 7 ∧
      AddsToA s .addAHlInd m false s.z.wz 7 ∧ AddsToA s (.addAIxd d) (zByte s x) false x 19 ∧
      AddsToA s (.addAIyd d) (zByte s y) false y 19) ∧
    (AddsToA s (.adcAR r) (getR s.z r) (flag s 0) s.z.wz 4 ∧ AddsToA s (.adcAN n) n (flag s 0) s.z.wz 7 ∧
      AddsToA s .adcAHlInd m (flag s 0) s.z.wz 7 ∧ AddsToA s (.adcAIxd d) (zByte s x) (flag s 0) x 19 ∧
      AddsToA s (.adcAIyd d) (zByte s y) (flag s 0) y 19)

/-- Z80SubSbcNeg: SUB s, SBC A,s of every form give A - s (- C), NEG gives 0 - A, with all eight flags (40 R402, R408, R412,
R413, R422). Marked in the spec as its own inference: R408, R412, R413 (general knowledge); R422 (general knowledge, D10). -/
def Obligations.Z80SubSbcNeg : Prop :=
  ∀ (s : State) (r : Reg8) (n d : Byte),
    let a := regA s
    let m := zByte s s.z.hl
    let x := indexed s .ix d
    let y := indexed s .iy d
    (SubsToA s (.subR r) a (getR s.z r) false s.z.wz 4 ∧ SubsToA s (.subN n) a n false s.z.wz 7 ∧
      SubsToA s .subHlInd a m false s.z.wz 7 ∧ SubsToA s (.subIxd d) a (zByte s x) false x 19 ∧
      SubsToA s (.subIyd d) a (zByte s y) false y 19) ∧
    (SubsToA s (.sbcAR r) a (getR s.z r) (flag s 0) s.z.wz 4 ∧ SubsToA s (.sbcAN n) a n (flag s 0) s.z.wz 7 ∧
      SubsToA s .sbcAHlInd a m (flag s 0) s.z.wz 7 ∧ SubsToA s (.sbcAIxd d) a (zByte s x) (flag s 0) x 19 ∧
      SubsToA s (.sbcAIyd d) a (zByte s y) (flag s 0) y 19) ∧
    SubsToA s .neg 0 a false s.z.wz 8

/-- Z80Compare: CP s of every form leaves A and sets the flags of A - s, Y and X from s (40 R408, R417). Marked in the spec as
its own inference: R408 (general knowledge); R417 (general knowledge, D18). -/
def Obligations.Z80Compare : Prop :=
  ∀ (s : State) (r : Reg8) (n d : Byte),
    let x := indexed s .ix d
    let y := indexed s .iy d
    Compares8 s (.cpR r) (getR s.z r) s.z.wz 4 ∧ Compares8 s (.cpN n) n s.z.wz 7 ∧
      Compares8 s .cpHlInd (zByte s s.z.hl) s.z.wz 7 ∧ Compares8 s (.cpIxd d) (zByte s x) x 19 ∧
      Compares8 s (.cpIyd d) (zByte s y) y 19

/-- Z80Logic: AND s, XOR s, OR s of every form, with the flags of R404: H = 1 for AND alone, P/V the parity, N = C = 0 (40 R404,
R408, R414 to R416). Marked in the spec as its own inference: R404, R408, R414, R415, R416 (general knowledge). -/
def Obligations.Z80Logic : Prop :=
  ∀ (s : State) (r : Reg8) (n d : Byte),
    let a := regA s
    let v := getR s.z r
    let m := zByte s s.z.hl
    let x := indexed s .ix d
    let y := indexed s .iy d
    (LogicToA s (.andR r) (a &&& v) true s.z.wz 4 ∧ LogicToA s (.andN n) (a &&& n) true s.z.wz 7 ∧
      LogicToA s .andHlInd (a &&& m) true s.z.wz 7 ∧ LogicToA s (.andIxd d) (a &&& zByte s x) true x 19 ∧
      LogicToA s (.andIyd d) (a &&& zByte s y) true y 19) ∧
    (LogicToA s (.xorR r) (a ^^^ v) false s.z.wz 4 ∧ LogicToA s (.xorN n) (a ^^^ n) false s.z.wz 7 ∧
      LogicToA s .xorHlInd (a ^^^ m) false s.z.wz 7 ∧ LogicToA s (.xorIxd d) (a ^^^ zByte s x) false x 19 ∧
      LogicToA s (.xorIyd d) (a ^^^ zByte s y) false y 19) ∧
    (LogicToA s (.orR r) (a ||| v) false s.z.wz 4 ∧ LogicToA s (.orN n) (a ||| n) false s.z.wz 7 ∧
      LogicToA s .orHlInd (a ||| m) false s.z.wz 7 ∧ LogicToA s (.orIxd d) (a ||| zByte s x) false x 19 ∧
      LogicToA s (.orIyd d) (a ||| zByte s y) false y 19)

/-- Z80IncDec: INC and DEC of a register, (HL), (IX+d), (IY+d): the operand wraps, the flags are those of R405, C is kept (40
R405, R418, R419). Marked in the spec as its own inference: R405, R418, R419 (general knowledge). -/
def Obligations.Z80IncDec : Prop :=
  ∀ (s : State) (r : Reg8) (d : Byte),
    let v := getR s.z r
    let m := zByte s s.z.hl
    let x := indexed s .ix d
    let y := indexed s .iy d
    ((∃ f, Z80Next s (.incR r) 4 (withRegF s r (v + 1) f) ∧ IncFlags s f v) ∧
      (∃ f, Z80Stores s .incHlInd 11 (withF s f) s.z.hl (m + 1) ∧ IncFlags s f m) ∧
      (∃ f, Z80Stores s (.incIxd d) 23 { withF s f with wz := x } x (zByte s x + 1) ∧ IncFlags s f (zByte s x)) ∧
      (∃ f, Z80Stores s (.incIyd d) 23 { withF s f with wz := y } y (zByte s y + 1) ∧ IncFlags s f (zByte s y))) ∧
    ((∃ f, Z80Next s (.decR r) 4 (withRegF s r (v - 1) f) ∧ DecFlags s f v) ∧
      (∃ f, Z80Stores s .decHlInd 11 (withF s f) s.z.hl (m - 1) ∧ DecFlags s f m) ∧
      (∃ f, Z80Stores s (.decIxd d) 23 { withF s f with wz := x } x (zByte s x - 1) ∧ DecFlags s f (zByte s x)) ∧
      (∃ f, Z80Stores s (.decIyd d) 23 { withF s f with wz := y } y (zByte s y - 1) ∧ DecFlags s f (zByte s y)))

/-- Z80Adjusts: DAA, CPL, SCF, CCF: the register A and every flag (40 R420, R421, R423, R424). Marked in the spec as its own
inference: R420, R421 (general knowledge); R423, R424 (general knowledge, D19). -/
def Obligations.Z80Adjusts : Prop :=
  ∀ s : State,
    let a := regA s
    let corr : Byte := (if flag s 4 || decide (a.toNat % 16 > 9) then 0x06 else 0) |||
      (if flag s 0 || decide (a.toNat > 0x99) then 0x60 else 0)
    let r := if flag s 1 then a - corr else a + corr
    (∃ f : Byte, Z80Next s .daa 4 { s.z with af := r ++ f } ∧
      Flags8 f (r.getLsbD 7) (r == 0) (r.getLsbD 5) (a.getLsbD 4 ^^ r.getLsbD 4) (r.getLsbD 3) (evenOnes r) (flag s 1)
        (flag s 0 || decide (a.toNat > 0x99))) ∧
    (∃ f : Byte, Z80Next s .cpl 4 { s.z with af := ~~~ a ++ f } ∧
      Flags8 f (flag s 7) (flag s 6) (!a.getLsbD 5) true (!a.getLsbD 3) (flag s 2) true (flag s 0)) ∧
    (∃ f : Byte, Z80Next s .scf 4 (withF s f) ∧
      Flags8 f (flag s 7) (flag s 6) (a.getLsbD 5) false (a.getLsbD 3) (flag s 2) false true) ∧
    (∃ f : Byte, Z80Next s .ccf 4 (withF s f) ∧
      Flags8 f (flag s 7) (flag s 6) (a.getLsbD 5) (flag s 0) (a.getLsbD 3) (flag s 2) false (!flag s 0))

/-- Z80Arith16: ADD HL,ss, ADC HL,ss, SBC HL,ss, ADD IX,pp, ADD IY,pp: the 16-bit result, the flags of R406 and R407, and WZ (40
R406, R407, R425 to R428). Marked in the spec as its own inference: R406, R407, R425, R426, R427, R428 (general knowledge). -/
def Sys2Proof.Claims.Z80Arith16 : Prop :=
  ∀ (s : State) (p : Rp) (q : Rpi),
    let a := s.z.hl
    let b := match p with
      | .bc => s.z.bc
      | .de => s.z.de
      | .hl => s.z.hl
      | .sp => s.z.sp
    let c := flag s 0
    (∃ f : Byte, Z80Next s (.addHlRp p) 11 { withF s f with hl := a + b, wz := a + 1 } ∧ Add16Flags s f a b (a + b)) ∧
    (let r := BitVec.ofNat 16 (a.toNat + b.toNat + c.toNat)
      ∃ f : Byte, Z80Next s (.adcHlRp p) 15 { withF s f with hl := r, wz := a + 1 } ∧
        Flags8 f (r.getLsbD 15) (r == 0) (r.getLsbD 13) (a.getLsbD 12 ^^ b.getLsbD 12 ^^ r.getLsbD 12) (r.getLsbD 11)
          (a.getLsbD 15 == b.getLsbD 15 && a.getLsbD 15 != r.getLsbD 15) false
          (decide (a.toNat + b.toNat + c.toNat > 0xFFFF))) ∧
    (let r := BitVec.ofInt 16 ((a.toNat : Int) - b.toNat - c.toNat)
      ∃ f : Byte, Z80Next s (.sbcHlRp p) 15 { withF s f with hl := r, wz := a + 1 } ∧
        Flags8 f (r.getLsbD 15) (r == 0) (r.getLsbD 13) (a.getLsbD 12 ^^ b.getLsbD 12 ^^ r.getLsbD 12) (r.getLsbD 11)
          (a.getLsbD 15 != b.getLsbD 15 && a.getLsbD 15 != r.getLsbD 15) true
          (decide ((a.toNat : Int) - b.toNat - c.toNat < 0))) ∧
    (let a := s.z.ix
      let b := match q with
        | .bc => s.z.bc
        | .de => s.z.de
        | .ii => s.z.ix
        | .sp => s.z.sp
      ∃ f : Byte, Z80Next s (.addIxPp q) 15 { withF s f with ix := a + b, wz := a + 1 } ∧ Add16Flags s f a b (a + b)) ∧
    (let a := s.z.iy
      let b := match q with
        | .bc => s.z.bc
        | .de => s.z.de
        | .ii => s.z.iy
        | .sp => s.z.sp
      ∃ f : Byte, Z80Next s (.addIyPp q) 15 { withF s f with iy := a + b, wz := a + 1 } ∧ Add16Flags s f a b (a + b))

/-- Z80IncDec16: INC and DEC of BC, DE, HL, SP, IX, IY wrap modulo 2^16 and write no flag (40 R429, R430). Marked in the spec as
its own inference: R429 (general knowledge, D14, D49); R430 (general knowledge, D14, derived). -/
def Sys2Proof.Claims.Z80IncDec16 : Prop :=
  ∀ s : State,
    (Z80Next s (.incRp .bc) 6 { s.z with bc := s.z.bc + 1 } ∧ Z80Next s (.incRp .de) 6 { s.z with de := s.z.de + 1 } ∧
      Z80Next s (.incRp .hl) 6 { s.z with hl := s.z.hl + 1 } ∧ Z80Next s (.incRp .sp) 6 { s.z with sp := s.z.sp + 1 } ∧
      Z80Next s .incIx 10 { s.z with ix := s.z.ix + 1 } ∧ Z80Next s .incIy 10 { s.z with iy := s.z.iy + 1 }) ∧
    (Z80Next s (.decRp .bc) 6 { s.z with bc := s.z.bc - 1 } ∧ Z80Next s (.decRp .de) 6 { s.z with de := s.z.de - 1 } ∧
      Z80Next s (.decRp .hl) 6 { s.z with hl := s.z.hl - 1 } ∧ Z80Next s (.decRp .sp) 6 { s.z with sp := s.z.sp - 1 } ∧
      Z80Next s .decIx 10 { s.z with ix := s.z.ix - 1 } ∧ Z80Next s .decIy 10 { s.z with iy := s.z.iy - 1 })

/-- Z80WordArith: the 16-bit arithmetic of HL, IX and IY, and the increments and decrements of every pair: `Z80Arith16`, `Z80IncDec16`. -/
def Obligations.Z80WordArith : Prop := Claims.Z80Arith16 ∧ Claims.Z80IncDec16

/-! ### Z80: rotates and bits -/

/-- Z80RotateA: RLCA, RRCA, RLA, RRA: A, and the flags of R501 with S, Z and P/V kept (41 R500, R501, R510 to R513). Marked in
the spec as its own inference: R501, R500 (general knowledge). -/
def Sys2Proof.Claims.Z80RotateA : Prop :=
  ∀ s : State, RotatesA s .rlca .rlc ∧ RotatesA s .rrca .rrc ∧ RotatesA s .rla .rl ∧ RotatesA s .rra .rr

/-- Z80RotateM: the eight general rotates and shifts of a register, (HL), (IX+d) and (IY+d), the flags of R502 (41 R500, R502,
R503, R514 to R521). Marked in the spec as its own inference: R502, R500 (general knowledge); R503 (general knowledge, D10);
R520 (D10). -/
def Sys2Proof.Claims.Z80RotateM : Prop :=
  ∀ s : State,
    RotatesM s .rlcM .rlcIxd .rlcIyd .rlc ∧ RotatesM s .rrcM .rrcIxd .rrcIyd .rrc ∧
    RotatesM s .rlM .rlIxd .rlIyd .rl ∧ RotatesM s .rrM .rrIxd .rrIyd .rr ∧
    RotatesM s .slaM .slaIxd .slaIyd .sla ∧ RotatesM s .sraM .sraIxd .sraIyd .sra ∧
    RotatesM s .sllM .sllIxd .sllIyd .sll ∧ RotatesM s .srlM .srlIxd .srlIyd .srl

/-- Z80Rotates: the accumulator rotates, and the general rotates and shifts of every operand: `Z80RotateA`, `Z80RotateM`. -/
def Obligations.Z80Rotates : Prop := Claims.Z80RotateA ∧ Claims.Z80RotateM

/-- Z80Rlc8: RLC applied eight times gives back the byte, and the carry of the eighth is bit 0 (41 R504; 90_conflicts.md C1).
Marked in the spec as its own inference: R504 (derived). -/
def Obligations.Z80Rlc8 : Prop :=
  ∀ (v : Byte) (c : Bool),
    let once (x : Byte × Bool) := shift8 .rlc x.1 x.2
    once (once (once (once (once (once (once (once (v, c)))))))) = (v, v.getLsbD 0)

/-- Z80BitSetRes: BIT b writes the flags alone, Y and X from the register, from WZ for (HL), from the address for (ii+d); SET b
and RES b write one bit of the operand and no flag (41 R503, R524 to R526). Marked in the spec as its own inference: R503, R526
(general knowledge, D10); R524 (general knowledge, D51, D10); R525 (general knowledge). -/
def Sys2Proof.Claims.Z80BitSetRes : Prop :=
  ∀ (s : State) (b : Fin 8) (r : Reg8) (d : Byte) (ii : IndexReg),
    let one : Byte := 1 <<< b.val
    let v := getR s.z r
    let m := zByte s s.z.hl
    let a := indexed s ii d
    let tested (f x yx : Byte) := Flags8 f (decide (b.val = 7) && x.getLsbD b) (!x.getLsbD b) (yx.getLsbD 5) true
      (yx.getLsbD 3) (!x.getLsbD b) false (flag s 0)
    (∃ f, Z80Next s (.bitM b (.reg r)) 8 (withF s f) ∧ tested f v v) ∧
    (∃ f, Z80Next s (.bitM b .hlInd) 12 (withF s f) ∧ tested f m (s.z.wz.extractLsb' 8 8)) ∧
    (∃ f, Z80Next s (ii.pick (.bitIxd b d) (.bitIyd b d)) 20 { withF s f with wz := a } ∧
      tested f (zByte s a) (a.extractLsb' 8 8)) ∧
    (Z80Next s (.setM b (.reg r)) 8 (setR s.z r (v ||| one)) ∧ Z80Stores s (.setM b .hlInd) 15 s.z s.z.hl (m ||| one) ∧
      Z80Stores s (ii.pick (.setIxd b d) (.setIyd b d)) 23 { s.z with wz := a } a (zByte s a ||| one)) ∧
    (Z80Next s (.resM b (.reg r)) 8 (setR s.z r (v &&& ~~~ one)) ∧
      Z80Stores s (.resM b .hlInd) 15 s.z s.z.hl (m &&& ~~~ one) ∧
      Z80Stores s (ii.pick (.resIxd b d) (.resIyd b d)) 23 { s.z with wz := a } a (zByte s a &&& ~~~ one))

/-- Z80DigitRotates: RLD and RRD: the digits of A and of the byte at HL, WZ = HL + 1, the flags, C kept (41 R522, R523). Marked
in the spec as its own inference: R522, R523 (general knowledge, D15). -/
def Sys2Proof.Claims.Z80DigitRotates : Prop :=
  ∀ s : State,
    let a := regA s
    let t := zByte s s.z.hl
    let hi (b : Byte) : BitVec 4 := b.extractLsb' 4 4
    let lo (b : Byte) : BitVec 4 := b.extractLsb' 0 4
    let flags (f r : Byte) := Flags8 f (r.getLsbD 7) (r == 0) (r.getLsbD 5) false (r.getLsbD 3) (evenOnes r) false (flag s 0)
    (∃ f : Byte, Z80Stores s .rld 18 { s.z with af := (hi a ++ hi t) ++ f, wz := s.z.hl + 1 } s.z.hl (lo t ++ lo a) ∧
      flags f (hi a ++ hi t)) ∧
    (∃ f : Byte, Z80Stores s .rrd 18 { s.z with af := (hi a ++ lo t) ++ f, wz := s.z.hl + 1 } s.z.hl (lo a ++ hi t) ∧
      flags f (hi a ++ lo t))

/-- Z80BitsAndDigits: BIT, SET and RES, and the digit rotates: `Z80BitSetRes`, `Z80DigitRotates`. -/
def Obligations.Z80BitsAndDigits : Prop := Claims.Z80BitSetRes ∧ Claims.Z80DigitRotates

/-! ### Z80: blocks and ports -/

/-- Z80BlockMove: LDI, LDD, LDIR, LDDR: one byte, the pointers, BC, the flags of R603, and the repeat of R602 (42 R602, R603,
R610 to R613). Marked in the spec as its own inference: R603, R610, R611, R612, R613 (general knowledge); R602 (general
knowledge, D28, D20). -/
def Sys2Proof.Claims.Z80BlockMove : Prop :=
  ∀ s : State,
    BlockMoves s .ldi 1 false ∧ BlockMoves s .ldd (-1) false ∧ BlockMoves s .ldir 1 true ∧ BlockMoves s .lddr (-1) true

/-- Z80BlockCompare: CPI, CPD, CPIR, CPDR: the pointer, BC, WZ, the flags of R604, and the repeat of R602, ended by a match (42
R602, R604, R614 to R617). Marked in the spec as its own inference: R604, R614, R615, R616, R617 (general knowledge); R602
(general knowledge, D28, D20). -/
def Sys2Proof.Claims.Z80BlockCompare : Prop :=
  ∀ s : State,
    BlockCompares s .cpi 1 false ∧ BlockCompares s .cpd (-1) false ∧ BlockCompares s .cpir 1 true ∧
      BlockCompares s .cpdr (-1) true

/-- Z80BlockMemory: the block moves and the block compares: `Z80BlockMove`, `Z80BlockCompare`. -/
def Obligations.Z80BlockMemory : Prop := Claims.Z80BlockMove ∧ Claims.Z80BlockCompare

/-- Z80BlockIo: INI, IND, INIR, INDR read the port BC before the decrement; OUTI, OUTD, OTIR, OTDR write the port after it (42
R601, R602, R605, R606, R618 to R625). The byte of an unlisted port is a free value (log 5). Marked in the spec as its own
inference: R601 (D17); R602 (general knowledge, D28, D20); R605, R606, R618, R619, R620, R621, R622, R623, R624, R625 (general
knowledge). -/
def Obligations.Z80BlockIo : Prop :=
  ∀ s : State,
    (BlockReads s .ini 1 false ∧ BlockReads s .ind (-1) false ∧ BlockReads s .inir 1 true ∧ BlockReads s .indr (-1) true) ∧
    (BlockWrites s .outi 1 false ∧ BlockWrites s .outd (-1) false ∧ BlockWrites s .otir 1 true ∧ BlockWrites s .otdr (-1) true)

/-- Z80PortIo: IN A,(n), IN r,(C), OUT (n),A, OUT (C),r: the port, the register or the event, WZ, and the flags of IN r,(C),
whose WZ is one more than BC as the read left it (42 R630 to R633; 00_scope.md R24). The byte is the host's listed answer, and a
free value where it lists none for the port: the model's choice (log 5). Marked in the spec as its own inference: R630, R632
(general knowledge); R631 (general knowledge, D10); R633 (general knowledge, D10, D17). -/
def Obligations.Z80PortIo : Prop :=
  ∀ (s : State) (n : Byte) (r : Reg8),
    let a := regA s
    let p := a ++ n
    let v := portIn s s.z.bc
    exec (.inAN n) s = .next { s with
      z := { s.z with af := portIn s p ++ s.z.af.extractLsb' 0 8, wz := p + 1 }, draws := drawsAfterIn s p, cycles := 11 } ∧
    (∃ f : Byte, exec (.inRC r) s = .next { s with
        z := { withRegF s r v f with wz := (withRegF s r v f).bc + 1 }, draws := drawsAfterIn s s.z.bc, cycles := 12 } ∧
      Flags8 f (v.getLsbD 7) (v == 0) (v.getLsbD 5) false (v.getLsbD 3) (evenOnes v) false (flag s 0)) ∧
    exec (.outNA n) s = .next { s with
      z := { s.z with wz := a ++ (n + 1) }, events := s.events ++ [.ioWrite p a], cycles := 11 } ∧
    exec (.outCR r) s = .next { s with
      z := { s.z with wz := s.z.bc + 1 }, events := s.events ++ [.ioWrite s.z.bc (getR s.z r)], cycles := 12 }

/-! ### Z80: control -/

/-- Z80Jumps: JP, JP cc, JR, JR cc, DJNZ: WZ is the target whether or not it is taken, PC only where it is; JP (HL), JP (IX), JP
(IY) leave WZ; no flag (43 R702, R710 to R715). Marked in the spec as its own inference: R702, R713 (D16); R715 (general
knowledge). -/
def Sys2Proof.Claims.Z80Jumps : Prop :=
  ∀ (s : State) (cc : Cond8) (nn : Word) (e : Byte),
    let jr := s.z.pc + e.signExtend 16
    let b := s.z.bc.extractLsb' 8 8 - 1
    let jumps (i : Instr) (taken : Bool) (target : Word) (z : Z80) (t t' : Nat) :=
      Z80Next s i (if taken then t else t') { z with wz := target, pc := if taken then target else s.z.pc }
    jumps (.jpNn nn) true nn s.z 10 10 ∧ jumps (.jpCcNn cc nn) (zcond s cc) nn s.z 10 10 ∧
    jumps (.jr e) true jr s.z 12 12 ∧
    (jumps (.jrCc .nz e) (!flag s 6) jr s.z 12 7 ∧ jumps (.jrCc .z e) (flag s 6) jr s.z 12 7 ∧
      jumps (.jrCc .nc e) (!flag s 0) jr s.z 12 7 ∧ jumps (.jrCc .c e) (flag s 0) jr s.z 12 7) ∧
    jumps (.djnz e) (b != 0) jr { s.z with bc := b ++ s.z.bc.extractLsb' 0 8 } 13 8 ∧
    (Z80Next s .jpHl 4 { s.z with pc := s.z.hl } ∧ Z80Next s .jpIx 8 { s.z with pc := s.z.ix } ∧
      Z80Next s .jpIy 8 { s.z with pc := s.z.iy })

/-- Z80CallsReturns: CALL, CALL cc, RST push PC; RET, RET cc, RETI, RETN pop it, RETI and RETN with IFF1 from IFF2; WZ is
written even where the condition does not hold (43 R700, R702, R716 to R722). Marked in the spec as its own inference: R700
(general knowledge, D49); R702, R719 (D16); R720 (D52); R721 (D10); R722 (general knowledge, D16). -/
def Sys2Proof.Claims.Z80CallsReturns : Prop :=
  ∀ (s : State) (cc : Cond8) (nn : Word) (y : Fin 8),
    let p : Word := BitVec.ofNat 16 (8 * y.val)
    let t := zWord s s.z.sp
    let back := { s.z with pc := t, wz := t, sp := s.z.sp + 2 }
    Z80Pushes s (.callNn nn) 17 { s.z with pc := nn, wz := nn } s.z.pc ∧
    (zcond s cc = true → Z80Pushes s (.callCcNn cc nn) 17 { s.z with pc := nn, wz := nn } s.z.pc) ∧
    (zcond s cc = false → Z80Next s (.callCcNn cc nn) 10 { s.z with wz := nn }) ∧
    Z80Pushes s (.rst y) 11 { s.z with pc := p, wz := p } s.z.pc ∧
    Z80Next s .ret 10 back ∧
    (zcond s cc = true → Z80Next s (.retCc cc) 11 back) ∧
    (zcond s cc = false → Z80Next s (.retCc cc) 5 { s.z with wz := t }) ∧
    Z80Next s .reti 14 { back with iff1 := s.z.iff2 } ∧ Z80Next s .retn 14 { back with iff1 := s.z.iff2 }

/-- Z80Transfers: the jumps, calls, restarts and returns: `Z80Jumps`, `Z80CallsReturns`. -/
def Obligations.Z80Transfers : Prop := Claims.Z80Jumps ∧ Claims.Z80CallsReturns

/-! ### Z80: loads, stack, exchanges and control of the CPU -/

/-- Z80Loads8: every 8-bit load copies its source, registers and memory, with WZ where its rule writes it, and no flag (44 R800, R810
to R821). -/
def Sys2Proof.Claims.Z80Loads8 : Prop :=
  ∀ (s : State) (r r' : Reg8) (n d : Byte) (nn : Word) (ii : IndexReg),
    let a := indexed s ii d
    let loadsA (i : Instr) (t : Nat) (p : Word) :=
      Z80Next s i t { s.z with af := zByte s p ++ s.z.af.extractLsb' 0 8, wz := p + 1 }
    let storesA (i : Instr) (t : Nat) (p : Word) :=
      Z80Stores s i t { s.z with wz := regA s ++ (p.extractLsb' 0 8 + 1) } p (regA s)
    (Z80Next s (.ldRR r r') 4 (setR s.z r (getR s.z r')) ∧ Z80Next s (.ldRN r n) 7 (setR s.z r n) ∧
      Z80Next s (.ldRHlInd r) 7 (setR s.z r (zByte s s.z.hl))) ∧
    (Z80Stores s (.ldHlIndR r) 7 s.z s.z.hl (getR s.z r) ∧ Z80Stores s (.ldHlIndN n) 10 s.z s.z.hl n) ∧
    (Z80Next s (ii.pick (.ldRIxd r d) (.ldRIyd r d)) 19 { setR s.z r (zByte s a) with wz := a } ∧
      Z80Stores s (ii.pick (.ldIxdR d r) (.ldIydR d r)) 19 { s.z with wz := a } a (getR s.z r) ∧
      Z80Stores s (ii.pick (.ldIxdN d n) (.ldIydN d n)) 19 { s.z with wz := a } a n) ∧
    (loadsA (.ldAInd .bc) 7 s.z.bc ∧ loadsA (.ldAInd .de) 7 s.z.de ∧ loadsA (.ldAMem nn) 13 nn) ∧
    (storesA (.ldIndA .bc) 7 s.z.bc ∧ storesA (.ldIndA .de) 7 s.z.de ∧ storesA (.ldMemA nn) 13 nn)

/-- Z80Loads16: every 16-bit load, immediate, from memory and to memory, low byte first, and LD SP; no flag (44 R822 to R825).
Marked in the spec as its own inference: R823 (D5). -/
def Sys2Proof.Claims.Z80Loads16 : Prop :=
  ∀ (s : State) (nn : Word),
    let w := zWord s nn
    let z := { s.z with wz := nn + 1 }
    (Z80Next s (.ldRpNn .bc nn) 10 { s.z with bc := nn } ∧ Z80Next s (.ldRpNn .de nn) 10 { s.z with de := nn } ∧
      Z80Next s (.ldRpNn .hl nn) 10 { s.z with hl := nn } ∧ Z80Next s (.ldRpNn .sp nn) 10 { s.z with sp := nn } ∧
      Z80Next s (.ldIxNn nn) 14 { s.z with ix := nn } ∧ Z80Next s (.ldIyNn nn) 14 { s.z with iy := nn }) ∧
    (Z80Next s (.ldHlMem nn) 16 { z with hl := w } ∧ Z80Next s (.ldRpMem .bc nn) 20 { z with bc := w } ∧
      Z80Next s (.ldRpMem .de nn) 20 { z with de := w } ∧ Z80Next s (.ldRpMem .hl nn) 20 { z with hl := w } ∧
      Z80Next s (.ldRpMem .sp nn) 20 { z with sp := w } ∧ Z80Next s (.ldIxMem nn) 20 { z with ix := w } ∧
      Z80Next s (.ldIyMem nn) 20 { z with iy := w }) ∧
    (Z80StoresWord s (.ldMemHl nn) 16 z nn s.z.hl ∧ Z80StoresWord s (.ldMemRp .bc nn) 20 z nn s.z.bc ∧
      Z80StoresWord s (.ldMemRp .de nn) 20 z nn s.z.de ∧ Z80StoresWord s (.ldMemRp .hl nn) 20 z nn s.z.hl ∧
      Z80StoresWord s (.ldMemRp .sp nn) 20 z nn s.z.sp ∧ Z80StoresWord s (.ldMemIx nn) 20 z nn s.z.ix ∧
      Z80StoresWord s (.ldMemIy nn) 20 z nn s.z.iy) ∧
    (Z80Next s .ldSpHl 6 { s.z with sp := s.z.hl } ∧ Z80Next s .ldSpIx 10 { s.z with sp := s.z.ix } ∧
      Z80Next s .ldSpIy 10 { s.z with sp := s.z.iy })

/-- Z80Loads: the 8-bit and the 16-bit loads: `Z80Loads8`, `Z80Loads16`. -/
def Obligations.Z80Loads : Prop := Claims.Z80Loads8 ∧ Claims.Z80Loads16

/-- Z80Stack: PUSH and POP of BC, DE, HL, AF, IX, IY: POP AF writes all of F (43 R700; 44 R826, R827). Marked in the spec as its
own inference: R700 (general knowledge, D49). -/
def Sys2Proof.Claims.Z80Stack : Prop :=
  ∀ s : State,
    let w := zWord s s.z.sp
    let z := { s.z with sp := s.z.sp + 2 }
    (Z80Pushes s (.pushRp2 .bc) 11 s.z s.z.bc ∧ Z80Pushes s (.pushRp2 .de) 11 s.z s.z.de ∧
      Z80Pushes s (.pushRp2 .hl) 11 s.z s.z.hl ∧ Z80Pushes s (.pushRp2 .af) 11 s.z s.z.af ∧
      Z80Pushes s .pushIx 15 s.z s.z.ix ∧ Z80Pushes s .pushIy 15 s.z s.z.iy) ∧
    (Z80Next s (.popRp2 .bc) 10 { z with bc := w } ∧ Z80Next s (.popRp2 .de) 10 { z with de := w } ∧
      Z80Next s (.popRp2 .hl) 10 { z with hl := w } ∧ Z80Next s (.popRp2 .af) 10 { z with af := w } ∧
      Z80Next s .popIx 14 { z with ix := w } ∧ Z80Next s .popIy 14 { z with iy := w })

/-- Z80Exchanges: EX DE,HL, EX AF,AF', EXX, and EX (SP) with HL, IX, IY, which leaves SP (44 R828 to R831). Marked in the spec
as its own inference: R828 (D11). -/
def Sys2Proof.Claims.Z80Exchanges : Prop :=
  ∀ s : State,
    let w := zWord s s.z.sp
    Z80Next s .exDeHl 4 { s.z with de := s.z.hl, hl := s.z.de } ∧
    Z80Next s .exAfAf 4 { s.z with af := s.z.afAlt, afAlt := s.z.af } ∧
    Z80Next s .exx 4 { s.z with
      bc := s.z.bcAlt, de := s.z.deAlt, hl := s.z.hlAlt, bcAlt := s.z.bc, deAlt := s.z.de, hlAlt := s.z.hl } ∧
    Z80StoresWord s .exSpHl 19 { s.z with hl := w, wz := w } s.z.sp s.z.hl ∧
    Z80StoresWord s .exSpIx 23 { s.z with ix := w, wz := w } s.z.sp s.z.ix ∧
    Z80StoresWord s .exSpIy 23 { s.z with iy := w, wz := w } s.z.sp s.z.iy

/-- Z80StackExchange: PUSH and POP, and the exchanges: `Z80Stack`, `Z80Exchanges`. -/
def Obligations.Z80StackExchange : Prop := Claims.Z80Stack ∧ Claims.Z80Exchanges

/-- Z80Special: LD A,I and LD A,R with P/V from IFF2, LD I,A, LD R,A, NOP, HALT, DI, EI, IM 0, IM 1, IM 2 (44 R832 to R840).
Marked in the spec as its own inference: R835 (D44); R837 (D26); R839 (D25); R840 (D10). -/
def Obligations.Z80Special : Prop :=
  ∀ s : State,
    let flags (f v : Byte) := Flags8 f (v.getLsbD 7) (v == 0) (v.getLsbD 5) false (v.getLsbD 3) s.z.iff2 false (flag s 0)
    (∃ f : Byte, Z80Next s .ldAI 9 { s.z with af := s.z.i ++ f } ∧ flags f s.z.i) ∧
    (∃ f : Byte, Z80Next s .ldAR 9 { s.z with af := s.z.r ++ f } ∧ flags f s.z.r) ∧
    (Z80Next s .ldIA 9 { s.z with i := regA s } ∧ Z80Next s .ldRA 9 { s.z with r := regA s }) ∧
    (Z80Next s .nopZ 4 s.z ∧ Z80Next s .halt 4 { s.z with halted := true }) ∧
    (Z80Next s .di 4 { s.z with iff1 := false, iff2 := false } ∧
      Z80Next s .ei 4 { s.z with iff1 := true, iff2 := true, eiDelay := true }) ∧
    (Z80Next s .im0 8 { s.z with im := .im0 } ∧ Z80Next s .im1 8 { s.z with im := .im1 } ∧ Z80Next s .im2 8 { s.z with im := .im2 })

/-! ### 68000: data movement -/

/-- M68kMove: MOVE: the source read after its side effect, then the destination's side effect, the write and the flags of R909;
MOVEA: all of An, a word sign-extended, no flag; MOVEQ: all of Dn (45 R903, R909 to R912). Marked in the spec as its own
inference: R909, R903 (general knowledge). -/
def Sys2Proof.Claims.M68kMove : Prop :=
  ∀ s : State,
    let pw := s.m.pc0 + 2
    let moves (i : Ea → Ea → Instr) (sz : Size) := ∀ src dst : Ea,
      let l := locOf s sz pw src
      let u := sideOf s sz pw src
      let v := l.value u sz
      let l' := locOf u sz pw dst
      l.reachable sz = true → l'.reachable sz = true →
        ∃ sr, exec (i src dst) s = .next (withSr (l'.put (sideOf u sz pw dst) sz v) sr) ∧ MoveFlags sr s.m.sr sz v
    let movesA (i : Ea → Fin 8 → Instr) (sz : Size) := ∀ (src : Ea) (n : Fin 8),
      let l := locOf s sz pw src
      let u := sideOf s sz pw src
      l.reachable sz = true →
        exec (i src n) s = .next { u with m := { u.m with a := u.m.a.set n (wide sz (l.value u sz)) } }
    (moves .moveB .b ∧ moves .moveW .w ∧ moves .moveL .l) ∧ (movesA .moveaW .w ∧ movesA .moveaL .l) ∧
    ∀ (v : Byte) (n : Fin 8), ∃ sr,
      exec (.moveq v n) s = .next (withSr { s with m := { s.m with d := s.m.d.set n (v.signExtend 32) } } sr) ∧
      MoveFlags sr s.m.sr .l (v.signExtend 32)

/-- M68kMovem: MOVEM: stores of the listed registers upward from a control address or downward from An, loads that extend words
and leave the base of (An)+ at the final address (45 R913). Marked in the spec as its own inference: R913 (D39). -/
def Sys2Proof.Claims.M68kMovem : Prop :=
  ∀ (s : State) (sz : Size) (mask : Word) (n : Fin 8) (ea : Ea),
    let step := BitVec.ofNat 32 sz.bytes
    let pw := s.m.pc0 + 4
    ((Loc.mem s.m.a[n]).reachable sz = true →
      exec (.movemStore sz mask (.preDec n)) s = .next { s with
        bus := storeAll s.bus sz (-step) ((listed mask).map fun i => numbered s (15 - i)) (s.m.a[n] - step)
        m := { s.m with a := s.m.a.set n (s.m.a[n] - BitVec.ofNat 32 (sz.bytes * (listed mask).length)) } }) ∧
    (∀ a, ea.isCtrl = true → locOf s sz pw ea = .mem a → (Loc.mem a).reachable sz = true →
      exec (.movemStore sz mask ea) s =
        .next { s with bus := storeAll s.bus sz step ((listed mask).map fun k => numbered s k) a }) ∧
    (∀ a, ea.isCtrlPi = true → locOf s sz pw ea = .mem a → (Loc.mem a).reachable sz = true →
      let loaded (k : Nat) := wide sz ((Loc.mem (a + BitVec.ofNat 32 (sz.bytes * listedBelow mask k))).value s sz)
      ∃ t : State, exec (.movemLoad sz mask ea) s = .next t ∧ t = { s with m := { s.m with d := t.m.d, a := t.m.a } } ∧
        (∀ k : Fin 8, t.m.d[k] = if mask.getLsbD k then loaded k else s.m.d[k]) ∧
        ∀ k : Fin 8, t.m.a[k] =
          if ea = .postInc k then a + BitVec.ofNat 32 (sz.bytes * (listed mask).length)
          else if mask.getLsbD (8 + k) then loaded (8 + k) else s.m.a[k])

/-- M68kMovep: MOVEP: a word or long of Dx to or from every other byte, most significant first, at any address (45 R914). Marked
in the spec as its own inference: R914 (D6). -/
def Sys2Proof.Claims.M68kMovep : Prop :=
  ∀ (s : State) (x y : Fin 8) (d : Word),
    let a := s.m.a[y] + d.signExtend 32
    let v := s.m.d[x]
    let b (k : Long) : Byte := Bus.readM s.bus ((a + k).extractLsb' 0 24)
    exec (.movep .wToReg x y d) s = .next { s with
      m := { s.m with d := s.m.d.set x ((v.extractLsb' 16 16 : Word) ++ (b 0 ++ b 2)) } } ∧
    exec (.movep .lToReg x y d) s = .next { s with m := { s.m with d := s.m.d.set x ((b 0 ++ b 2) ++ (b 4 ++ b 6)) } } ∧
    exec (.movep .wToMem x y d) s =
      .next { s with bus := storeAlternate s.bus [v.extractLsb' 8 8, v.extractLsb' 0 8] a } ∧
    exec (.movep .lToMem x y d) s = .next { s with
      bus := storeAlternate s.bus [v.extractLsb' 24 8, v.extractLsb' 16 8, v.extractLsb' 8 8, v.extractLsb' 0 8] a }

/-- M68kRegisterLists: MOVEM, and MOVEP: `M68kMovem`, `M68kMovep`. -/
def Obligations.M68kRegisterLists : Prop := Claims.M68kMovem ∧ Claims.M68kMovep

/-- M68kAddresses: LEA writes the address to An, PEA pushes it, JMP goes to it, JSR pushes PC and goes to it; memory at it is not
read (45 R915, R916; 47 R1114, R1115). -/
def Obligations.M68kAddresses : Prop :=
  ∀ (s : State) (ea : Ea) (n : Fin 8) (a : Long), ea.isCtrl = true → locOf s .l (s.m.pc0 + 2) ea = .mem a →
    exec (.lea ea n) s = .next { s with m := { s.m with a := s.m.a.set n a } } ∧
    exec (.jmp ea) s = .next (withPc s a) ∧
    (isEven s.m.a[7] = true →
      exec (.pea ea) s = .next (withPushed s a) ∧ exec (.jsr ea) s = .next (withPc (withPushed s s.m.pc) a))

/-- M68kRegisters: EXG, SWAP, EXT, CLR, TST and NOP (45 R917 to R921; 47 R1152). Marked in the spec as its own inference: R1152
(D33). -/
def Sys2Proof.Claims.M68kRegisters : Prop :=
  ∀ (s : State) (x y : Fin 8) (sz : Size) (ea : Ea),
    let pw := s.m.pc0 + 2
    let v := s.m.d[x]
    (exec (.exgDD x y) s = .next { s with m := { s.m with d := (s.m.d.set x s.m.d[y]).set y s.m.d[x] } } ∧
      exec (.exgAA x y) s = .next { s with m := { s.m with a := (s.m.a.set x s.m.a[y]).set y s.m.a[x] } } ∧
      exec (.exgDA x y) s = .next { s with m := { s.m with d := s.m.d.set x s.m.a[y], a := s.m.a.set y s.m.d[x] } }) ∧
    (let r : Long := (v.extractLsb' 0 16 : Word) ++ (v.extractLsb' 16 16 : Word)
     ∃ sr, exec (.swap x) s = .next (withSr ((Loc.dreg x).put s .l r) sr) ∧ MoveFlags sr s.m.sr .l r) ∧
    (∃ sr, exec (.ext .w x) s = .next (withSr ((Loc.dreg x).put s .w (wide .b v)) sr) ∧ MoveFlags sr s.m.sr .w (wide .b v)) ∧
    (∃ sr, exec (.ext .l x) s = .next (withSr ((Loc.dreg x).put s .l (wide .w v)) sr) ∧ MoveFlags sr s.m.sr .l (wide .w v)) ∧
    ((locOf s sz pw ea).reachable sz = true → ∃ sr,
      exec (.clr sz ea) s = .next (withSr ((locOf s sz pw ea).put (sideOf s sz pw ea) sz 0) sr) ∧
      Ccr sr s.m.sr (s.m.sr.getLsbD 4) false true false false) ∧
    ReadsEa s (.tst sz ea) sz pw ea (fun u _ => u) (fun sr v => MoveFlags sr s.m.sr sz v) ∧
    exec .nopM s = .next s

/-- M68kMoves: MOVE, MOVEA, MOVEQ, and the register exchanges, extensions, CLR, TST, NOP: `M68kMove`, `M68kRegisters`. -/
def Obligations.M68kMoves : Prop := Claims.M68kMove ∧ Claims.M68kRegisters

/-! ### 68000: arithmetic -/

/-- M68kAddSub: ADD, ADDI, ADDQ, SUB, SUBI, SUBQ and NEG of every form but a quick An: the result at the size and X, N, Z, V, C of
R905 and R906 (45 R930, R932, R933, R935, R937, R938, R940). -/
def Sys2Proof.Claims.M68kAddSub : Prop :=
  ∀ (s : State) (sz : Size) (ea : Ea) (n : Fin 8) (imm : Long) (q : Fin 8),
    let pw := s.m.pc0 + 2
    let d := s.m.d[n]
    let toD (i : Instr) (o : Arith) :=
      ReadsEa s i sz pw ea (fun u v => (Loc.dreg n).put u sz (o.result sz v d false)) fun sr v => ArithFlags o sr s.m.sr sz v d
    let toEa (i : Instr) (o : Arith) (a : Long) :=
      ModifiesEa s i sz pw ea (fun v => o.result sz a v false) fun sr v => ArithFlags o sr s.m.sr sz a v
    (toD (.addEaD sz ea n) .add ∧ toD (.subEaD sz ea n) .sub) ∧
    (toEa (.addDEa sz n ea) .add d ∧ toEa (.subDEa sz n ea) .sub d) ∧
    (toEa (.addiEa sz imm ea) .add imm ∧ toEa (.subiEa sz imm ea) .sub imm) ∧
    (ea.isAreg = false → toEa (.addq q sz ea) .add (quickOf q) ∧ toEa (.subq q sz ea) .sub (quickOf q)) ∧
    ModifiesEa s (.negEa sz ea) sz pw ea (fun v => Arith.result .sub sz v 0 false)
      fun sr v => ArithFlags .sub sr s.m.sr sz v 0

/-- M68kAddressArith: ADDA and SUBA extend a word source, ADDQ and SUBQ of An ignore the size: all 32 bits of An, no flag (45 R931,
R933, R936, R938). -/
def Sys2Proof.Claims.M68kAddressArith : Prop :=
  ∀ (s : State) (sz : Size) (ea : Ea) (n q : Fin 8),
    let l := locOf s sz (s.m.pc0 + 2) ea
    let u := sideOf s sz (s.m.pc0 + 2) ea
    let v := wide sz (l.value u sz)
    let setA (t : State) (x : Long) : State := { t with m := { t.m with a := t.m.a.set n x } }
    (l.reachable sz = true → exec (.adda sz ea n) s = .next (setA u (u.m.a[n] + v)) ∧
      exec (.suba sz ea n) s = .next (setA u (u.m.a[n] - v))) ∧
    exec (.addq q sz (.areg n)) s = .next (setA s (s.m.a[n] + quickOf q)) ∧
    exec (.subq q sz (.areg n)) s = .next (setA s (s.m.a[n] - quickOf q))

/-- M68kAddSubAll: addition and subtraction at a size, and of address registers: `M68kAddSub`, `M68kAddressArith`. -/
def Obligations.M68kAddSubAll : Prop := Claims.M68kAddSub ∧ Claims.M68kAddressArith

/-- Adders: the adding and subtracting primitives of both CPUs: `add8` and `sub8` with all eight flags of the Z80 (40 R401,
R402), with what R403 derives from them (subtracting what was added restores the accumulator, P/V of a sum is the signed sum
outside -128 to 127); `addf` and `subf` with X, N, Z, V, C of the 68000 (45 R905, R906). Marked in the spec as its own
inference: R403 (derived). -/
def Obligations.Adders : Prop :=
  (∀ (a b : Byte) (cin : Bool),
    (let r := BitVec.ofNat 8 (a.toNat + b.toNat + cin.toNat)
     (add8 a b cin).1 = r ∧
      Flags8 (add8 a b cin).2 (r.getLsbD 7) (r == 0) (r.getLsbD 5) (a.getLsbD 4 ^^ b.getLsbD 4 ^^ r.getLsbD 4) (r.getLsbD 3)
        (a.getLsbD 7 == b.getLsbD 7 && a.getLsbD 7 != r.getLsbD 7) false (decide (a.toNat + b.toNat + cin.toNat > 0xFF))) ∧
    (let r := BitVec.ofInt 8 ((a.toNat : Int) - b.toNat - cin.toNat)
     (sub8 a b cin).1 = r ∧ SubFlags (sub8 a b cin).2 a b r cin r) ∧
    (sub8 (add8 a b false).1 b false).1 = a ∧
    (add8 a b false).2.getLsbD 2 = decide (a.toInt + b.toInt < -128 ∨ a.toInt + b.toInt > 127)) ∧
  ∀ (s d : Long) (x : Bool) (sz : Size) (old : Word),
    let gives (o : Arith) (r : Alu) :=
      let v := o.result sz s d x
      r.r.toNat = low sz v ∧
        Ccr (aluFlags old r) old (o.carry sz s d x) (msb sz v) (decide (low sz v = 0)) (o.overflow sz s d x) (o.carry sz s d x)
    gives .add (addf s d x sz) ∧ gives .sub (subf s d x sz)

/-- M68kExtended: ADDX, SUBX and NEGX take X in, and clear or keep Z (45 R908, R934, R939, R941). Marked in the spec as its own
inference: R908 (general knowledge). -/
def Obligations.M68kExtended : Prop :=
  ∀ (s : State) (sz : Size) (y x : Fin 8) (ea : Ea),
    let e := s.m.sr.getLsbD 4
    let extended (i : XForm → Instr) (o : Arith) :=
      (∃ sr, exec (i .regs) s = .next (withSr ((Loc.dreg x).put s sz (o.result sz s.m.d[y] s.m.d[x] e)) sr) ∧
        ArithFlagsX o sr s.m.sr sz s.m.d[y] s.m.d[x]) ∧
      ModifiesPre s (i .mem) sz y x (fun a b => o.result sz a b e) fun sr a b => ArithFlagsX o sr s.m.sr sz a b
    extended (fun f => .addx sz f y x) .add ∧ extended (fun f => .subx sz f y x) .sub ∧
    ModifiesEa s (.negx sz ea) sz (s.m.pc0 + 2) ea (fun v => Arith.result .sub sz v 0 e)
      fun sr v => ArithFlagsX .sub sr s.m.sr sz v 0

/-- M68kCompare: CMP, CMPA at 32 bits, CMPI and CMPM write N, Z, V, C alone (45 R907, R942 to R945). Marked in the spec as its
own inference: R907 (general knowledge). -/
def Obligations.M68kCompare : Prop :=
  ∀ (s : State) (sz : Size) (ea : Ea) (n : Fin 8) (imm : Long) (y x : Fin 8),
    let pw := s.m.pc0 + 2
    let keep (u : State) (_ : Long) := u
    ReadsEa s (.cmpEaD sz ea n) sz pw ea keep (fun sr v => CompareFlags sr s.m.sr sz v s.m.d[n]) ∧
    ReadsEa s (.cmpa sz ea n) sz pw ea keep
      (fun sr v => CompareFlags sr s.m.sr .l (wide sz v) (sideOf s sz pw ea).m.a[n]) ∧
    ReadsEa s (.cmpiEa sz imm ea) sz pw ea keep (fun sr v => CompareFlags sr s.m.sr sz imm v) ∧
    (let u := sideOf s sz 0 (.postInc y)
     let l := locOf s sz 0 (.postInc y)
     let k := locOf u sz 0 (.postInc x)
     l.reachable sz = true → k.reachable sz = true →
       ∃ sr, exec (.cmpm sz y x) s = .next (withSr (sideOf u sz 0 (.postInc x)) sr) ∧
         CompareFlags sr s.m.sr sz (l.value u sz) (k.value u sz))

/-- M68kMultiply: MULU and MULS: the 32-bit product of two words, N and Z of it, V = C = 0 (45 R946, R947). -/
def Sys2Proof.Claims.M68kMultiply : Prop :=
  ∀ (s : State) (ea : Ea) (n : Fin 8),
    let d := s.m.d[n]
    let signed (v : Long) : Int := (v.extractLsb' 0 16 : Word).toInt
    let multiplies (i : Instr) (r : Long → Long) :=
      ReadsEa s i .w (s.m.pc0 + 2) ea (fun u v => { u with m := { u.m with d := u.m.d.set n (r v) } })
        fun sr v => MoveFlags sr s.m.sr .l (r v)
    multiplies (.mulu ea n) (fun v => BitVec.ofNat 32 (low .w d * low .w v)) ∧
    multiplies (.muls ea n) (fun v => BitVec.ofInt 32 (signed d * signed v))

/-- M68kDivide: DIVU and DIVS: the remainder above the quotient; V = 1 and Dn kept where the quotient does not fit; the
zero-divide exception on 0, which pushes the next instruction's address. N, Z or V are any value where the rule leaves them so
(45 R948, R949; log 4). Marked in the spec as its own inference: R948 (D30); R949 (general knowledge, D30, D29). -/
def Sys2Proof.Claims.M68kDivide : Prop :=
  ∀ (s : State) (ea : Ea) (n : Fin 8),
    let l := locOf s .w (s.m.pc0 + 2) ea
    let u := sideOf s .w (s.m.pc0 + 2) ea
    let v : Word := (l.value u .w).extractLsb' 0 16
    let d := s.m.d[n]
    let x := s.m.sr.getLsbD 4
    let fits (i : Instr) (q rem : Word) := ∃ sr,
      exec i s = .next (withSr { u with m := { u.m with d := u.m.d.set n (rem ++ q) } } sr) ∧
      Ccr sr s.m.sr x (q.getLsbD 15) (q == 0) false false
    let overflows (i : Instr) := ∃ sr, exec i s = .next { withSr u sr with draws := s.draws + 2 } ∧
      Ccr sr s.m.sr x (sr.getLsbD 3) (sr.getLsbD 2) true false
    let traps (i : Instr) := ∃ sr, exec i s = .next (afterException { withSr u sr with draws := s.draws + 3 } 0x14 s.m.pc) ∧
      Ccr sr s.m.sr x (sr.getLsbD 3) (sr.getLsbD 2) (sr.getLsbD 1) false
    let q := d.toInt.tdiv v.toInt
    l.reachable .w = true →
    (v ≠ 0 → d.toNat / v.toNat ≤ 0xFFFF →
      fits (.divu ea n) (BitVec.ofNat 16 (d.toNat / v.toNat)) (BitVec.ofNat 16 (d.toNat % v.toNat))) ∧
    (v ≠ 0 → d.toNat / v.toNat > 0xFFFF → overflows (.divu ea n)) ∧
    (v ≠ 0 → -32768 ≤ q → q ≤ 32767 →
      fits (.divs ea n) (BitVec.ofInt 16 q) (BitVec.ofInt 16 (d.toInt - q * v.toInt))) ∧
    (v ≠ 0 → (q < -32768 ∨ q > 32767) → overflows (.divs ea n)) ∧
    (v = 0 → isEven (supervisorSp u) = true → traps (.divu ea n) ∧ traps (.divs ea n))

/-- M68kMulDiv: the products, and the quotients with their zero-divide exception: `M68kMultiply`, `M68kDivide`. -/
def Obligations.M68kMulDiv : Prop := Claims.M68kMultiply ∧ Claims.M68kDivide

/-! ### 68000: logic, shifts, bits, digits -/

/-- M68kLogic: AND, OR, EOR of every form and NOT: the result at the size, the flags of R909, X kept (46 R1000, R1010 to R1016).
Marked in the spec as its own inference: R909, R1000 (general knowledge). -/
def Obligations.M68kLogic : Prop :=
  ∀ (s : State) (sz : Size) (ea : Ea) (n : Fin 8) (imm : Long),
    let pw := s.m.pc0 + 2
    let d := s.m.d[n]
    let toD (i : Instr) (op : Long → Long → Long) :=
      ReadsEa s i sz pw ea (fun u v => (Loc.dreg n).put u sz (op v d)) fun sr v => MoveFlags sr s.m.sr sz (op v d)
    let toEa (i : Instr) (op : Long → Long) := ModifiesEa s i sz pw ea op fun sr v => MoveFlags sr s.m.sr sz (op v)
    (toD (.andEaD sz ea n) (· &&& ·) ∧ toD (.orEaD sz ea n) (· ||| ·)) ∧
    (toEa (.andDEa sz n ea) (d &&& ·) ∧ toEa (.orDEa sz n ea) (d ||| ·) ∧ toEa (.eorDEa sz n ea) (d ^^^ ·)) ∧
    (toEa (.andiEa sz imm ea) (imm &&& ·) ∧ toEa (.oriEa sz imm ea) (imm ||| ·) ∧ toEa (.eoriEa sz imm ea) (imm ^^^ ·)) ∧
    toEa (.notEa sz ea) (~~~ ·)

/-- M68kShifts: ASL, ASR, LSL, LSR, ROL, ROR, ROXL, ROXR of a register by either count and of a memory word by one: the value,
X, N, Z, V and C of the loop of R1002 (46 R1002, R1003, R1030 to R1037). Marked in the spec as its own inference: R1003 (general
knowledge). -/
def Obligations.M68kShifts : Prop :=
  ∀ s : State,
    (ShiftsReg s .aslReg .as .left ∧ ShiftsReg s .asrReg .as .right ∧ ShiftsReg s .lslReg .ls .left ∧
      ShiftsReg s .lsrReg .ls .right ∧ ShiftsReg s .rolReg .ro .left ∧ ShiftsReg s .rorReg .ro .right ∧
      ShiftsReg s .roxlReg .rox .left ∧ ShiftsReg s .roxrReg .rox .right) ∧
    (ShiftsMem s .aslMem .as .left ∧ ShiftsMem s .asrMem .as .right ∧ ShiftsMem s .lslMem .ls .left ∧
      ShiftsMem s .lsrMem .ls .right ∧ ShiftsMem s .rolMem .ro .left ∧ ShiftsMem s .rorMem .ro .right ∧
      ShiftsMem s .roxlMem .rox .left ∧ ShiftsMem s .roxrMem .rox .right)

/-- M68kShiftValues: what the loop comes to: a shift by any count multiplies or divides by a power of two at the size, an arithmetic
right shift divides the signed value rounding down, so a negative value shifted by the width or more gives all ones, and a rotate by the
width gives the value back (46 R1002, R1031). The arithmetic right shift follows the loop and R1031 against the remark under
R1002 that AS by the width gives 0 (the model's reading, log 19). -/
def Obligations.M68kShiftValues : Prop :=
  ∀ (sz : Size) (v : Long) (cnt : Nat) (sr : Word),
    let w := 8 * sz.bytes
    let after (kind : ShiftKind) (dir : ShiftDir) (k : Nat) := (shiftp kind dir v k sz sr).1
    (∀ kind, kind = .as ∨ kind = .ls → (after kind .left cnt).toNat = low sz v * 2 ^ cnt % 2 ^ w) ∧
    (after .ls .right cnt).toNat = low sz v / 2 ^ cnt ∧
    (wide sz (after .as .right cnt)).toInt = (wide sz v).toInt / 2 ^ cnt ∧
    (∀ dir, (after .ro dir w).toNat = low sz v)

/-- M68kBits: BTST, BCHG, BCLR, BSET, dynamic and static: bit mod 32 of a register, mod 8 of a byte, Z alone of the old bit (46
R1004, R1040 to R1043). Marked in the spec as its own inference: R1004 (general knowledge). -/
def Sys2Proof.Claims.M68kBits : Prop :=
  ∀ (s : State) (k : Fin 8) (b : Byte) (n : Fin 8) (ea : Ea), (∀ r, ea ≠ .dreg r) →
    let chg (v : Long) (j : Nat) : Long := v ^^^ ((1 : Long) <<< j)
    let clr (v : Long) (j : Nat) : Long := v &&& ~~~ ((1 : Long) <<< j)
    let set (v : Long) (j : Nat) : Long := v ||| ((1 : Long) <<< j)
    let tests (i : Ea → Instr) (num : Nat) (pw : Long) :=
      ReadsEa s (i (.dreg n)) .l pw (.dreg n) (fun u _ => u) (fun sr v => ZFlag sr s.m.sr (!v.getLsbD (num % 32))) ∧
      ReadsEa s (i ea) .b pw ea (fun u _ => u) (fun sr v => ZFlag sr s.m.sr (!v.getLsbD (num % 8)))
    let changes (i : Ea → Instr) (num : Nat) (pw : Long) (op : Long → Nat → Long) :=
      ModifiesEa s (i (.dreg n)) .l pw (.dreg n) (op · (num % 32)) (fun sr v => ZFlag sr s.m.sr (!v.getLsbD (num % 32))) ∧
      ModifiesEa s (i ea) .b pw ea (op · (num % 8)) (fun sr v => ZFlag sr s.m.sr (!v.getLsbD (num % 8)))
    let dyn := s.m.d[k].toNat
    let p := s.m.pc0 + 2
    let p' := s.m.pc0 + 4
    (tests (.btstD k) dyn p ∧ tests (.btstN b) b.toNat p') ∧
    (changes (.bchgD k) dyn p chg ∧ changes (.bchgN b) b.toNat p' chg) ∧
    (changes (.bclrD k) dyn p clr ∧ changes (.bclrN b) b.toNat p' clr) ∧
    (changes (.bsetD k) dyn p set ∧ changes (.bsetN b) b.toNat p' set)

/-- M68kDecimal: ABCD, SBCD and NBCD: the byte and the carry of R1005, Z cleared or kept, N and V any value (46 R1005, R1050 to
R1052; log 4). Marked in the spec as its own inference: R1005 (general knowledge, D54, D30). -/
def Sys2Proof.Claims.M68kDecimal : Prop :=
  ∀ s : State,
    Decimal s .abcd decAdd ∧ Decimal s .sbcd decSub ∧
    ∀ ea : Ea,
      let l := locOf s .b (s.m.pc0 + 2) ea
      let u := sideOf s .b (s.m.pc0 + 2) ea
      let r := decSub (lowByte (l.value u .b)) 0 (s.m.sr.getLsbD 4)
      ∃ sr, exec (.nbcd ea) s = .next { withSr (l.put u .b (r.1.zeroExtend 32)) sr with draws := s.draws + 2 } ∧
        DecFlags16 sr s.m.sr r.1 r.2

/-- DecimalDigits: the property of R1005: on decimal digits the primitives give the decimal sum and difference mod 100, with the
decimal carry or borrow. Marked in the spec as its own inference: R1005 (general knowledge, D54, D30). -/
def Sys2Proof.Claims.DecimalDigits : Prop :=
  ∀ (a b : Fin 100) (x : Bool),
    abcd8 (bcdOf a) (bcdOf b) x = (bcdOf ((a + b + x.toNat) % 100), decide (a.val + b + x.toNat ≥ 100)) ∧
    sbcd8 (bcdOf a) (bcdOf b) x = (bcdOf ((b + 100 - a - x.toNat) % 100), decide (a.val + x.toNat > b))

/-- M68kDecimals: the decimal instructions, and what their primitives come to on decimal digits: `M68kDecimal`, `DecimalDigits`. -/
def Obligations.M68kDecimals : Prop := Claims.M68kDecimal ∧ Claims.DecimalDigits

/-- M68kSetByte: Scc writes 0xFF or 0x00 by the condition and no flag; TAS writes the flags of the old byte and sets its bit 7
(46 R1053, R1054; 10_state.md R73). Marked in the spec as its own inference: R1054 (general knowledge, D37); R73 (general
knowledge). -/
def Sys2Proof.Claims.M68kSetByte : Prop :=
  ∀ (s : State) (k : Cond16) (ea : Ea),
    let l := locOf s .b (s.m.pc0 + 2) ea
    let u := sideOf s .b (s.m.pc0 + 2) ea
    exec (.scc k ea) s = .next (l.put u .b (if mcond s.m.sr k then 0xFF else 0)) ∧
    ModifiesEa s (.tas ea) .b (s.m.pc0 + 2) ea (· ||| 0x80) fun sr v => MoveFlags sr s.m.sr .b v

/-- M68kBitsAndBytes: the bit operations, and Scc and TAS: `M68kBits`, `M68kSetByte`. -/
def Obligations.M68kBitsAndBytes : Prop := Claims.M68kBits ∧ Claims.M68kSetByte

/-! ### 68000: control -/

/-- M68kBranches: BRA, BSR, Bcc, DBcc go to PC0 + 2 + the displacement; DBcc counts the low word of Dn (47 R1102, R1110 to
R1113). Marked in the spec as its own inference: R1102 (general knowledge, D46). -/
def Sys2Proof.Claims.M68kBranches : Prop :=
  ∀ (s : State) (k : Cond16) (n : Fin 8) (d : BrDisp) (w : Word),
    let target := s.m.pc0 + 2 + dispOf d
    let c : Word := s.m.d[n].extractLsb' 0 16 - 1
    let counted := { s with m := { s.m with d := s.m.d.set n ((s.m.d[n].extractLsb' 16 16 : Word) ++ c) } }
    exec (.bra d) s = .next (withPc s target) ∧
    exec (.bcc k d) s = .next (if mcond s.m.sr k then withPc s target else s) ∧
    (isEven s.m.a[7] = true → exec (.bsr d) s = .next (withPc (withPushed s s.m.pc) target)) ∧
    exec (.dbcc k n w) s = .next (
      if mcond s.m.sr k then withPc s (s.m.pc0 + 4)
      else if c = 0xFFFF then withPc counted (s.m.pc0 + 4)
      else withPc counted (s.m.pc0 + 2 + w.signExtend 32))

/-- M68kReturns: RTS, RTR, LINK and UNLK, on an even stack; LINK A7 pushes the decremented A7, UNLK A7 gives A7 the popped long
(47 R1116, R1117, R1119, R1120). Marked in the spec as its own inference: R1119, R1120 (D40). -/
def Sys2Proof.Claims.M68kReturns : Prop :=
  ∀ (s : State) (n : Fin 8) (d : Word),
    let sp := s.m.a[7]
    let long (a : Long) := (Loc.mem a).value s .l
    (isEven sp = true →
      exec .rts s = .next (withPc (withA7 s (sp + 4)) (long sp)) ∧
      (let c := (Loc.mem sp).value s .w
       ∃ sr, exec .rtr s = .next (withSr (withPc (withA7 s (sp + 6)) (long (sp + 2))) sr) ∧
        Ccr sr s.m.sr (c.getLsbD 4) (c.getLsbD 3) (c.getLsbD 2) (c.getLsbD 1) (c.getLsbD 0)) ∧
      exec (.link n d) s = .next { s with
        bus := writeMem s.bus (sp - 4) .l (if n.val = 7 then sp - 4 else s.m.a[n])
        m := { s.m with a := (s.m.a.set n (sp - 4)).set 7 (sp - 4 + d.signExtend 32) } }) ∧
    (isEven s.m.a[n] = true →
      exec (.unlk n) s = .next { s with m := { s.m with a := (s.m.a.set 7 (s.m.a[n] + 4)).set n (long s.m.a[n]) } })

/-- M68kTransfers: the branches, and the returns and stack frames: `M68kBranches`, `M68kReturns`. -/
def Obligations.M68kTransfers : Prop := Claims.M68kBranches ∧ Claims.M68kReturns

/-- M68kTraps: TRAP #0 to #14, TRAPV, ILLEGAL, line A, line F take their exceptions, the first two pushing the next
instruction's address, the others their own; TRAP #15 raises InvalidParameter (47 R1130, R1131, R1133 to R1135). Marked in the
spec as its own inference: R1130 (D21); R1133, R1134, R1135 (D22). -/
def Sys2Proof.Claims.M68kTraps : Prop :=
  ∀ (s : State) (v : Fin 16) (w : BitVec 12),
    exec (.trap 15) s = .fault (.invalidParameter .trap 16) ∧
    (s.m.sr.getLsbD 1 = false → exec .trapv s = .next s) ∧
    (isEven (supervisorSp s) = true →
      (v.val < 15 → exec (.trap v) s = .next (afterException s (0x80 + 4 * v.val) s.m.pc)) ∧
      (s.m.sr.getLsbD 1 = true → exec .trapv s = .next (afterException s 0x1C s.m.pc)) ∧
      exec .illegal s = .next (afterException s 0x10 s.m.pc0) ∧
      exec (.lineA w) s = .next (afterException s 0x28 s.m.pc0) ∧
      exec (.lineF w) s = .next (afterException s 0x2C s.m.pc0))

/-- M68kChk: CHK traps below 0 with N = 1 and above the bound with N = 0, else goes on; the flags the rule leaves open are any
value (47 R1132; log 4). Marked in the spec as its own inference: R1132 (D30). -/
def Sys2Proof.Claims.M68kChk : Prop :=
  ∀ (s : State) (ea : Ea) (n : Fin 8),
    let l := locOf s .w (s.m.pc0 + 2) ea
    let u := sideOf s .w (s.m.pc0 + 2) ea
    let bound := ((l.value u .w).extractLsb' 0 16 : Word).toInt
    let d := (s.m.d[n].extractLsb' 0 16 : Word).toInt
    let any (sr : Word) (neg : Bool) := Ccr sr s.m.sr (s.m.sr.getLsbD 4) neg (sr.getLsbD 2) (sr.getLsbD 1) (sr.getLsbD 0)
    let traps (neg : Bool) := ∃ sr,
      exec (.chk ea n) s = .next (afterException { withSr u sr with draws := s.draws + 3 } 0x18 s.m.pc) ∧ any sr neg
    l.reachable .w = true →
    (0 ≤ d → d ≤ bound → ∃ sr, exec (.chk ea n) s = .next { withSr u sr with draws := s.draws + 4 } ∧ any sr (sr.getLsbD 3)) ∧
    (isEven (supervisorSp u) = true → (d < 0 → traps true) ∧ (0 ≤ d → bound < d → traps false))

/-- M68kTrapping: the trap-generating instructions, and CHK: `M68kTraps`, `M68kChk`. -/
def Obligations.M68kTrapping : Prop := Claims.M68kTraps ∧ Claims.M68kChk

/-- M68kConditionCodes: ANDI, ORI, EORI to CCR and MOVE to CCR write the five condition codes alone; MOVE from SR stores SR in
either mode (46 R1001, R1017 to R1019; 47 R1140, R1142). Marked in the spec as its own inference: R1001 (D45). -/
def Obligations.M68kConditionCodes : Prop :=
  ∀ (s : State) (imm : Byte) (ea : Ea),
    let pw := s.m.pc0 + 2
    let codes (sr : Word) (v : Byte) :=
      Ccr sr s.m.sr (v.getLsbD 4) (v.getLsbD 3) (v.getLsbD 2) (v.getLsbD 1) (v.getLsbD 0)
    let ccr : Byte := s.m.sr.extractLsb' 0 8
    let sets (i : Instr) (v : Byte) := ∃ sr, exec i s = .next (withSr s sr) ∧ codes sr v
    (sets (.andiCcr imm) (ccr &&& imm) ∧ sets (.oriCcr imm) (ccr ||| imm) ∧ sets (.eoriCcr imm) (ccr ^^^ imm)) ∧
    ReadsEa s (.moveToCcr ea) .w pw ea (fun u _ => u) (fun sr v => codes sr (lowByte v)) ∧
    ((locOf s .w pw ea).reachable .w = true →
      exec (.moveFromSr ea) s = .next ((locOf s .w pw ea).put (sideOf s .w pw ea) .w (s.m.sr.zeroExtend 32)))

/-- M68kSupervisor: in supervisor mode ANDI, ORI, EORI and MOVE to SR, STOP, RTE write SR through the mask 0xA71F, exchanging
the stacks where S becomes 0; MOVE USP and RESET (46 R1020 to R1022; 47 R1118, R1141, R1143, R1150, R1151; 10_state.md R70).
Marked in the spec as its own inference: R1118 (D42); R1150 (D27, D53); R1151 (D38); R70 (derived). -/
def Obligations.M68kSupervisor : Prop :=
  ∀ (s : State) (imm : Word) (ea : Ea) (n : Fin 8), s.m.sr.getLsbD 13 = true →
    let sp := s.m.a[7]
    (exec (.andiSr imm) s = .next (srWritten s (s.m.sr &&& imm)) ∧
      exec (.oriSr imm) s = .next (srWritten s (s.m.sr ||| imm)) ∧
      exec (.eoriSr imm) s = .next (srWritten s (s.m.sr ^^^ imm))) ∧
    (let l := locOf s .w (s.m.pc0 + 2) ea
     let u := sideOf s .w (s.m.pc0 + 2) ea
     l.reachable .w = true → exec (.moveToSr ea) s = .next (srWritten u ((l.value u .w).extractLsb' 0 16))) ∧
    (let t := srWritten s imm
     exec (.stop imm) s = .next { t with m := { t.m with stopped := true } }) ∧
    (isEven sp = true → exec .rte s = .next (withPc
      (srWritten (withA7 s (sp + 6)) (((Loc.mem sp).value s .w).extractLsb' 0 16)) ((Loc.mem (sp + 2)).value s .l))) ∧
    exec (.moveAnUsp n) s = .next { s with m := { s.m with otherSP := s.m.a[n] } } ∧
    exec (.moveUspAn n) s = .next { s with m := { s.m with a := s.m.a.set n s.m.otherSP } } ∧
    exec .reset s = .next { s with events := s.events ++ [.resetOut] }

/-- M68kPrivilege: in user mode each of the nine privileged instructions does nothing but take the privilege-violation
exception, pushing its own address (47 R1100). Marked in the spec as its own inference: R1100 (general knowledge, D41). -/
def Obligations.M68kPrivilege : Prop :=
  ∀ (s : State) (imm : Word) (ea : Ea) (n : Fin 8), s.m.sr.getLsbD 13 = false → isEven s.m.otherSP = true →
    ∀ i ∈ [Instr.andiSr imm, .oriSr imm, .eoriSr imm, .moveToSr ea, .moveAnUsp n, .moveUspAn n, .rte, .stop imm, .reset],
      exec i s = .next (afterException s 0x20 s.m.pc0)

/-- MisalignedOperands: where a word or long of memory that a MOVE, MOVEA, arithmetic, logic, compare, shift or status
instruction accesses is at an odd address, the instruction stops with MisalignedAccess at that address, at the source before the
destination (20_memory.md R163; 45 R903, R904; 46 R1003; 47 R1100). Marked in the spec as its own inference: R163 (D6); R903,
R1003 (general knowledge); R904 (D29); R1100 (general knowledge, D41). -/
def Sys2Proof.Claims.MisalignedOperands : Prop :=
  ∀ (s : State) (sz : Size) (ea dst : Ea) (n x : Fin 8) (imm : Long) (q : Fin 8),
    let pw := s.m.pc0 + 2
    (StopsBoth s (.moveW ea dst) .w pw ea dst ∧ StopsBoth s (.moveL ea dst) .l pw ea dst) ∧
    (StopsEa s (.moveaW ea n) .w pw ea ∧ StopsEa s (.moveaL ea n) .l pw ea) ∧
    (∀ i ∈ [Instr.addEaD sz ea n, .addDEa sz n ea, .adda sz ea n, .addiEa sz imm ea, .addq q sz ea,
        .subEaD sz ea n, .subDEa sz n ea, .suba sz ea n, .subiEa sz imm ea, .subq q sz ea, .negEa sz ea, .negx sz ea,
        .cmpEaD sz ea n, .cmpa sz ea n, .cmpiEa sz imm ea, .andEaD sz ea n, .andDEa sz n ea, .andiEa sz imm ea,
        .orEaD sz ea n, .orDEa sz n ea, .oriEa sz imm ea, .eorDEa sz n ea, .eoriEa sz imm ea, .notEa sz ea, .clr sz ea,
        .tst sz ea], StopsEa s i sz pw ea) ∧
    (∀ i ∈ [Instr.mulu ea n, .muls ea n, .divu ea n, .divs ea n, .chk ea n, .moveToCcr ea, .moveFromSr ea, .aslMem ea, .asrMem ea,
        .lslMem ea, .lsrMem ea, .rolMem ea, .rorMem ea, .roxlMem ea, .roxrMem ea], StopsEa s i .w pw ea) ∧
    (s.m.sr.getLsbD 13 = true → StopsEa s (.moveToSr ea) .w pw ea) ∧
    (∀ i ∈ [Instr.addx sz .mem n x, .subx sz .mem n x], StopsBoth s i sz 0 (.preDec n) (.preDec x)) ∧
    StopsBoth s (.cmpm sz n x) sz 0 (.postInc n) (.postInc x)

/-- MisalignedStacks: MOVEM of a list that is not empty stops at its first odd address; PEA, BSR, JSR, LINK, RTS, RTR, RTE, UNLK
stop at an odd stack, and the instructions that take an exception at an odd supervisor stack, all with MisalignedAccess
(20_memory.md R163; 45 R904, R913; 47 R1101, R1116 to R1120; 60 R1260). Marked in the spec as its own inference: R163 (D6); R904
(D29); R913 (D39); R1101 (general knowledge); R1118 (D42); R1119, R1120 (D40); R1260 (D42, D47). -/
def Sys2Proof.Claims.MisalignedStacks : Prop :=
  ∀ (s : State) (sz : Size) (mask : Word) (ea : Ea) (n : Fin 8) (d : BrDisp) (w imm : Word) (v : Fin 16) (k : BitVec 12),
    let sp := s.m.a[7]
    let frame (t : State) := supervisorSp t - 4
    (mask ≠ 0 →
      ((Loc.mem s.m.a[n]).reachable sz = false → StopsAt s (.movemStore sz mask (.preDec n)) (s.m.a[n] - BitVec.ofNat 32 sz.bytes)) ∧
      (ea.isCtrl = true → StopsEa s (.movemStore sz mask ea) sz (s.m.pc0 + 4) ea) ∧
      (ea.isCtrlPi = true → StopsEa s (.movemLoad sz mask ea) sz (s.m.pc0 + 4) ea)) ∧
    (isEven sp = false →
      (∀ i ∈ [Instr.pea ea, .bsr d, .jsr ea, .link n w], StopsAt s i (sp - 4)) ∧ StopsAt s .rts sp ∧ StopsAt s .rtr sp ∧
      (s.m.sr.getLsbD 13 = true → StopsAt s .rte sp)) ∧
    (isEven s.m.a[n] = false → StopsAt s (.unlk n) s.m.a[n]) ∧
    (isEven (supervisorSp s) = false →
      (v.val < 15 → StopsAt s (.trap v) (frame s)) ∧ (s.m.sr.getLsbD 1 = true → StopsAt s .trapv (frame s)) ∧
      StopsAt s .illegal (frame s) ∧ StopsAt s (.lineA k) (frame s) ∧ StopsAt s (.lineF k) (frame s) ∧
      (s.m.sr.getLsbD 13 = false →
        ∀ i ∈ [Instr.andiSr imm, .oriSr imm, .eoriSr imm, .moveToSr ea, .moveAnUsp n, .moveUspAn n, .rte, .stop imm, .reset],
          StopsAt s i (frame s))) ∧
    (let l := locOf s .w (s.m.pc0 + 2) ea
     let u := sideOf s .w (s.m.pc0 + 2) ea
     let b := (l.value u .w).extractLsb' 0 16
     let c : Word := s.m.d[n].extractLsb' 0 16
     l.reachable .w = true → isEven (supervisorSp u) = false →
      (b = 0 → StopsAt s (.divu ea n) (frame u) ∧ StopsAt s (.divs ea n) (frame u)) ∧
      (c.toInt < 0 ∨ (b : Word).toInt < c.toInt → StopsAt s (.chk ea n) (frame u)))

/-- Misaligned: where a 68000 instruction stops on an odd operand, and on an odd stack: `MisalignedOperands`, `MisalignedStacks`. -/
def Obligations.Misaligned : Prop := Claims.MisalignedOperands ∧ Claims.MisalignedStacks

/-- M68kStores: where a 68000 instruction goes on, every byte outside `storesOf` reads as before: its stores at the addresses of
its meaning and the frame of an exception it takes (20_memory.md R155, R168; 60 R1202, R1260; 45 R901, R913, R914; 47 R1101).
Marked in the spec as its own inference: R168 (derived); R1202 (D29); R1260 (D42, D47); R901, R1101 (general knowledge); R913
(D39); R914 (D6). -/
def Obligations.M68kStores : Prop :=
  ∀ (i : Instr) (s t : State) (a : BitVec 24), i.cpu = .m68k → exec i s = .next t → a ∉ storesOf i s →
    Bus.readM t.bus a = Bus.readM s.bus a

/-! ### Memory -/

/-- BusSpaces: the Z80's space is RAM below 0x2000 and a stub that reads 0x00 and discards above (20_memory.md R158); a write to ROM or
to a stub, of either CPU, changes nothing and so no later read, and raises nothing (R155); a 68000 byte access is the access at
the low 24 bits of its address (R160). -/
def Obligations.BusSpaces : Prop :=
  ∀ (s : State) (v : Byte),
    (∀ k : Word,
      (k.toNat < 0x2000 → Bus.readZ s.bus k = Memory.read s.bus.zram k.toNat ∧
        Bus.writeZ s.bus k v = { s.bus with zram := Memory.write s.bus.zram k.toNat v }) ∧
      (0x2000 ≤ k.toNat → Bus.readZ s.bus k = 0 ∧ Bus.writeZ s.bus k v = s.bus)) ∧
    (∀ a : BitVec 24, a.toNat < 0xA00000 ∨ (0xA02000 ≤ a.toNat ∧ a.toNat < 0xFF0000) → Bus.writeM s.bus a v = s.bus) ∧
    (∀ (addr w : Long) (sz : Size), addr.toNat % 2 ^ 24 < 0xA00000 - 3 ∨
        (0xA02000 ≤ addr.toNat % 2 ^ 24 ∧ addr.toNat % 2 ^ 24 < 0xFF0000 - 3) → (sz = .b ∨ isEven addr = true) →
      memWrite s addr sz w = .ok s) ∧
    ∀ addr w : Long,
      memRead s addr .b = .ok ((Bus.readM s.bus (addr.extractLsb' 0 24)).zeroExtend 32) ∧
      memWrite s addr .b w = .ok { s with bus := Bus.writeM s.bus (addr.extractLsb' 0 24) (w.extractLsb' 0 8) }

/-- MemoryMap: what each range of both spaces reads, and what a write of it does: ROM and stubs discard, the window at 0xA00000
is the Z80's space (20_memory.md R153, R155, R157, R158). Marked in the spec as its own inference: R153 (D7, D8); R157 (D48). -/
def Sys2Proof.Claims.MemoryMap : Prop :=
  ∀ (b : Bus) (a : BitVec 24) (k : Word) (v : Byte),
    (a.toNat < 0x400000 → Bus.writeM b a v = b ∧ Bus.readM b a = match b.rom with
      | none => 0
      | some im => if a.toNat < im.len then Memory.read im.cells a.toNat else 0) ∧
    (0x400000 ≤ a.toNat → a.toNat < 0xA00000 → Bus.readM b a = 0 ∧ Bus.writeM b a v = b) ∧
    (0xA00000 ≤ a.toNat → a.toNat < 0xA10000 →
      Bus.readM b a = Bus.readZ b (a.extractLsb' 0 16) ∧ Bus.writeM b a v = Bus.writeZ b (a.extractLsb' 0 16) v) ∧
    (0xA10000 ≤ a.toNat → a.toNat < 0xFF0000 →
      Bus.readM b a = (if a.toNat ∈ b.pads then 0xFF else 0) ∧ Bus.writeM b a v = b) ∧
    (0xFF0000 ≤ a.toNat → Bus.readM b a = Memory.read b.wram (a.toNat - 0xFF0000) ∧
      Bus.writeM b a v = { b with wram := Memory.write b.wram (a.toNat - 0xFF0000) v }) ∧
    (k.toNat < 0x2000 → Bus.readZ b k = Memory.read b.zram k.toNat ∧
      Bus.writeZ b k v = { b with zram := Memory.write b.zram k.toNat v }) ∧
    (0x2000 ≤ k.toNat → Bus.readZ b k = 0 ∧ Bus.writeZ b k v = b)

/-- AccessWidths: 68000 bytes, words and longs are big-endian bytes at the low 24 bits of the address, odd words and longs raise
MisalignedAccess with that address before any byte; Z80 words are little-endian at any address (20_memory.md R154, R160 to
R164). Marked in the spec as its own inference: R154 (D4); R161 (D5); R162 (D3); R163 (D6); R164 (D2, D5). -/
def Sys2Proof.Claims.AccessWidths : Prop :=
  ∀ (s : State) (addr : Long) (v : Long) (k w : Word),
    let a : BitVec 24 := addr.extractLsb' 0 24
    let rd (i : BitVec 24) : Byte := Bus.readM s.bus (a + i)
    let wr (b : Bus) (i : BitVec 24) (lo : Nat) : Bus := Bus.writeM b (a + i) (v.extractLsb' lo 8)
    (memRead s addr .b = .ok ((rd 0).zeroExtend 32) ∧ memWrite s addr .b v = .ok { s with bus := wr s.bus 0 0 }) ∧
    (isEven addr = true →
      memRead s addr .w = .ok ((rd 0 ++ rd 1).zeroExtend 32) ∧
      memRead s addr .l = .ok ((rd 0 ++ rd 1) ++ (rd 2 ++ rd 3)) ∧
      memWrite s addr .w v = .ok { s with bus := wr (wr s.bus 0 8) 1 0 } ∧
      memWrite s addr .l v = .ok { s with bus := wr (wr (wr (wr s.bus 0 24) 1 16) 2 8) 3 0 }) ∧
    (isEven addr = false → ∀ sz, sz ≠ .b →
      memRead s addr sz = .error (.misalignedAccess a) ∧ memWrite s addr sz v = .error (.misalignedAccess a)) ∧
    readZ16 s k = Bus.readZ s.bus (k + 1) ++ Bus.readZ s.bus k ∧
    writeZ16 s k w =
      { s with bus := Bus.writeZ (Bus.writeZ s.bus k (w.extractLsb' 0 8)) (k + 1) (w.extractLsb' 8 8) }

/-- MemoryAccess: the address map, and the widths, byte orders and alignment of accesses: `MemoryMap`, `AccessWidths`. -/
def Obligations.MemoryAccess : Prop := Claims.MemoryMap ∧ Claims.AccessWidths

/-- RamReadsBack: a byte written reads back where RAM backs the address, in either space, and every other byte of both spaces
reads as before; a word the 68000 writes through the bridge is read byte-swapped by the Z80 (20_memory.md R155, R157, R166).
Marked in the spec as its own inference: R157 (D48); R166 (derived). -/
def Sys2Proof.Claims.RamReadsBack : Prop :=
  ∀ (b : Bus) (v : Byte), Bus.wf b = true →
    (∀ a k : BitVec 24, Bus.readM (Bus.writeM b a v) k =
      if k = a ∧ (0xA00000 ≤ a.toNat ∧ a.toNat < 0xA02000 ∨ 0xFF0000 ≤ a.toNat) then v else Bus.readM b k) ∧
    (∀ a k : Word, Bus.readZ (Bus.writeZ b a v) k = if k = a ∧ a.toNat < 0x2000 then v else Bus.readZ b k) ∧
    (∀ (a : BitVec 24) (k : Word), Bus.readZ (Bus.writeM b a v) k =
      if a.toNat = 0xA00000 + k.toNat ∧ k.toNat < 0x2000 then v else Bus.readZ b k) ∧
    ∀ (s : State) (addr : Long) (w : Word) (k : Word), s.bus = b → k.toNat + 1 < 0x2000 →
      addr.toNat % 2 ^ 24 = 0xA00000 + k.toNat →
      readZ16 (s.setBus (writeMem b addr .w (w.zeroExtend 32))) k = (w.extractLsb' 0 8 : Byte) ++ (w.extractLsb' 8 8 : Byte)

/-- StoreFrame: a store of a size leaves every byte outside its bytes as it was (20_memory.md R160 to R162, R168). Marked in the
spec as its own inference: R161 (D5); R162 (D3); R168 (derived). -/
def Sys2Proof.Claims.StoreFrame : Prop :=
  ∀ (b : Bus) (addr v : Long) (sz : Size) (k : BitVec 24), Bus.wf b = true →
    (∀ j < sz.bytes, k ≠ addr.extractLsb' 0 24 + BitVec.ofNat 24 j) → Bus.readM (writeMem b addr sz v) k = Bus.readM b k

/-- StoresAndReads: what a write leaves in memory: `RamReadsBack`, `StoreFrame`. -/
def Obligations.StoresAndReads : Prop := Claims.RamReadsBack ∧ Claims.StoreFrame

/-! ### 68000 operands, exceptions and modes -/

/-- ResolveTable: the twelve modes of R901, the step of (An)+ and -(An) being 2 for a byte on A7 (45 R901; 30_encoding.md R278).
Marked in the spec as its own inference: R901, R278 (general knowledge). -/
def Sys2Proof.Claims.ResolveTable : Prop :=
  ∀ (s : State) (sz : Size) (pw : Long) (n : Fin 8) (w : Word) (d : Byte) (x : IndexX) (v : Long),
    let an := s.m.a[n]
    let inc : Long := if sz = .b ∧ n.val = 7 then 2 else BitVec.ofNat 32 sz.bytes
    let xr := if x.isAddr then s.m.a[x.reg] else s.m.d[x.reg]
    let idx := if x.long then xr else wide .w xr
    let moved (r : Long) : State := { s with m := { s.m with a := s.m.a.set n r } }
    resolve s sz pw (.dreg n) = (.dreg n, s) ∧
    resolve s sz pw (.areg n) = (.areg n, s) ∧
    resolve s sz pw (.ind n) = (.mem an, s) ∧
    resolve s sz pw (.postInc n) = (.mem an, moved (an + inc)) ∧
    resolve s sz pw (.preDec n) = (.mem (an - inc), moved (an - inc)) ∧
    resolve s sz pw (.disp n w) = (.mem (an + w.signExtend 32), s) ∧
    resolve s sz pw (.index n x d) = (.mem (an + d.signExtend 32 + idx), s) ∧
    resolve s sz pw (.absW w) = (.mem (w.signExtend 32), s) ∧
    resolve s sz pw (.absL v) = (.mem v, s) ∧
    resolve s sz pw (.pcDisp w) = (.mem (pw + w.signExtend 32), s) ∧
    resolve s sz pw (.pcIndex x d) = (.mem (pw + d.signExtend 32 + idx), s) ∧
    resolve s sz pw (.imm v) = (.imm v, s)

/-- OperandAccess: a read and a write of every location: the low bits of Dn, all of An with a word sign-extended, memory, an
immediate (45 R902; 10_state.md R66, R67). Marked in the spec as its own inference: R902 (general knowledge, D6); R66, R67
(general knowledge). -/
def Sys2Proof.Claims.OperandAccess : Prop :=
  ∀ (s : State) (n : Fin 8) (v : Long),
    let d := s.m.d[n]
    let put (l : Loc) (sz : Size) := writeLoc s sz l v
    let setD (r : Long) : State := { s with m := { s.m with d := s.m.d.set n r } }
    let setA (r : Long) : State := { s with m := { s.m with a := s.m.a.set n r } }
    (∀ sz, readLoc s sz (.dreg n) = .ok (BitVec.ofNat 32 (low sz d)) ∧
      readLoc s sz (.areg n) = .ok (BitVec.ofNat 32 (low sz s.m.a[n])) ∧
      readLoc s sz (.imm v) = .ok (BitVec.ofNat 32 (low sz v)) ∧
      ∀ a, readLoc s sz (.mem a) = memRead s a sz ∧ put (.mem a) sz = memWrite s a sz v) ∧
    put (.dreg n) .b = .ok (setD ((d.extractLsb' 8 24 : BitVec 24) ++ (v.extractLsb' 0 8 : Byte))) ∧
    put (.dreg n) .w = .ok (setD ((d.extractLsb' 16 16 : Word) ++ (v.extractLsb' 0 16 : Word))) ∧
    put (.dreg n) .l = .ok (setD v) ∧
    put (.areg n) .w = .ok (setA ((v.extractLsb' 0 16 : Word).signExtend 32)) ∧
    put (.areg n) .l = .ok (setA v)

/-- OperandForms: the effective addresses, and the reads and writes of their locations: `ResolveTable`, `OperandAccess`. -/
def Obligations.OperandForms : Prop := Claims.ResolveTable ∧ Claims.OperandAccess

/-- ModeSwap: entering a mode exchanges A7 and otherSP and writes S where the mode changes, and changes nothing where it does not; no
other register or flag changes (10_state.md R69). -/
def Obligations.ModeSwap : Prop :=
  ∀ s : State,
    let sup := s.m.sr.getLsbD 13
    let swapped (sr : Word) : State :=
      { s with m := { s.m with a := s.m.a.set 7 s.m.otherSP, otherSP := s.m.a[7], sr := sr } }
    enterSupervisorMode s = (if sup then s else swapped (s.m.sr ||| 0x2000)) ∧
    enterUserMode s = (if sup then swapped (s.m.sr &&& 0xDFFF) else s)

/-- StatusWrites: a write of SR masks the value and exchanges the stacks where S changes; entering and leaving supervisor mode
from user mode restores the state, and leaving it from supervisor mode installs otherSP in A7 (10_state.md R70, R81). Marked in
the spec as its own inference: R70 (derived); R81 (D43). -/
def Sys2Proof.Claims.StatusWrites : Prop :=
  ∀ (s : State) (v : Word),
    let sup := s.m.sr.getLsbD 13
    let masked := v &&& 0xA71F
    writeSR s v = (if masked.getLsbD 13 = sup then withSr s masked else
      { s with m := { s.m with a := s.m.a.set 7 s.m.otherSP, otherSP := s.m.a[7], sr := masked } }) ∧
    (sup = false → enterUserMode (enterSupervisorMode s) = s) ∧
    (sup = true → enterSupervisorMode s = s ∧ (enterUserMode (enterSupervisorMode s)).m.a[7] = s.m.otherSP)

/-- ExceptionEntry: taking an exception on an even supervisor stack gives the state of `afterException`: the frame, supervisor
mode with T = 0, the mask kept, and PC from the vector; on an odd one it raises MisalignedAccess (60 R1250, R1260; 10_state.md
R68). Marked in the spec as its own inference: R1260 (D42, D47). -/
def Sys2Proof.Claims.ExceptionEntry : Prop :=
  ∀ (s : State) (off : Nat) (pc : Long), off % 4 = 0 →
    let sp := supervisorSp s
    let t := afterException s off pc
    (isEven sp = true → takeException s off pc = .ok t ∧
      (t.m.d = s.m.d ∧ (∀ n : Fin 7, t.m.a[n] = s.m.a[n]) ∧ t.m.a[7] = sp - 6 ∧
        t.m.otherSP = (if s.m.sr.getLsbD 13 then s.m.otherSP else s.m.a[7])) ∧
      (t.m.sr.getLsbD 13 = true ∧ t.m.sr.getLsbD 15 = false ∧
        ∀ k, k ≠ 13 → k ≠ 15 → t.m.sr.getLsbD k = s.m.sr.getLsbD k) ∧
      t.bus = writeMem (writeMem s.bus (sp - 4) .l pc) (sp - 6) .w (s.m.sr.zeroExtend 32) ∧
      (t.m.stopped = false ∧ t.m.pc = (Loc.mem (BitVec.ofNat 32 off)).value { s with bus := t.bus } .l) ∧
      t.z = s.z ∧ t.host = s.host ∧ t.events = s.events) ∧
    (isEven sp = false → takeException s off pc = .error (.misalignedAccess ((sp - 4).extractLsb' 0 24)))

/-- VectorOffsets: the autovector and TRAP offsets, levels outside 1 to 7 and ids outside 1 to 15 raising InvalidParameter (60
R1250). -/
def Sys2Proof.Claims.VectorOffsets : Prop :=
  (∀ level : Nat, 1 ≤ level → level ≤ 7 → autovectorOffset level = .ok (0x64 + 4 * (level - 1))) ∧
  (∀ level : Nat, level < 1 ∨ level > 7 → autovectorOffset level = .error (.invalidParameter .autovector level)) ∧
  (∀ k : Nat, 1 ≤ k → k ≤ 15 → trapVectorOffset k = .ok (0x80 + 4 * (k - 1))) ∧
  (∀ k : Nat, k < 1 ∨ k > 15 → trapVectorOffset k = .error (.invalidParameter .trap k)) ∧
  ∀ (s : State) (level : Nat),
    (1 ≤ level → level ≤ 7 → getInterruptAutovector s level = memRead s (BitVec.ofNat 32 (0x64 + 4 * (level - 1))) .l) ∧
    (level < 1 ∨ level > 7 → getInterruptAutovector s level = .error (.invalidParameter .autovector level))

/-- Exceptions: taking an exception, the vector offsets, and the writes of SR: `ExceptionEntry`, `VectorOffsets`, `StatusWrites`. -/
def Obligations.Exceptions : Prop := Claims.ExceptionEntry ∧ Claims.VectorOffsets ∧ Claims.StatusWrites

/-! ### Decoding -/

/-- RoundTripZ80: every well-formed Z80 instruction is decoded from its encoding, whatever follows, with its length
(30_encoding.md R258 to R271). What the encoder writes in bits that the decoder ignores is 0 (log 12). Marked in the spec as its
own inference: R259, R260, R261, R262, R263, R264, R265, R266, R267 (general knowledge); R268, R269, R271 (general knowledge,
D10); R270 (general knowledge, D10, D11). -/
def Obligations.RoundTripZ80 : Prop :=
  ∀ (i : Instr) (rest : List Byte), i.cpu = .z80 → i.wf = true →
    decodeZ80 (encode i ++ rest) = .ok i (encode i).length

/-- RoundTripM68k: every well-formed 68000 instruction is decoded from its encoding, whatever follows, with its length
(30_encoding.md R274 to R284). What the encoder writes in bits that the decoder ignores is 0 (log 12). Marked in the spec as its
own inference: R275, R276, R277, R278, R279, R280, R281, R282, R283, R284 (general knowledge). -/
def Obligations.RoundTripM68k : Prop :=
  ∀ (i : Instr) (rest : List Byte), i.cpu = .m68k → i.wf = true →
    decode .m68k (encode i ++ rest) = .ok i (encode i).length

/-- DecodedIsWellFormed: what a decoder reads is a well-formed instruction of its CPU (30_encoding.md R253, R281, R282). Marked
in the spec as its own inference: R253 (D35); R281, R282 (general knowledge). -/
def Obligations.DecodedIsWellFormed : Prop :=
  ∀ (cpu : Cpu) (bytes : List Byte) (i : Instr) (n : Nat), decode cpu bytes = .ok i n → i.wf = true ∧ i.cpu = cpu

/-- DecodeWords: words written out from the spec's encodings read as the instructions they stand for, and empty slots as unknown
(30 R254, R265 to R271, R284). Marked in the spec as its own inference: R265, R266, R267, R284 (general knowledge); R268, R269,
R271 (general knowledge, D10); R270 (general knowledge, D10, D11). -/
def Obligations.DecodeWords : Prop :=
  decodeZ80 [0x80] = .ok (.addAR .b) 1 ∧ decodeZ80 [0xDD, 0x86, 0x05] = .ok (.addAIxd 5) 3 ∧
  decodeZ80 [0xFD, 0xCB, 0x7F, 0x46] = .ok (.bitIyd 0 0x7F) 4 ∧ decodeZ80 [0xCB, 0x27] = .ok (.slaM (.reg .a)) 2 ∧
  decodeZ80 [0xED, 0xB0] = .ok .ldir 2 ∧ decodeZ80 [0xCD, 0x34, 0x12] = .ok (.callNn 0x1234) 3 ∧
  decodeZ80 [0x21, 0x34, 0x12] = .ok (.ldRpNn .hl 0x1234) 3 ∧
  decodeWords [0x1200] = .ok (.moveB (.dreg 0) (.dreg 1)) 2 ∧ decodeWords [0xD001] = .ok (.addEaD .b (.dreg 1) 0) 2 ∧
  decodeWords [0x0640, 0x0001] = .ok (.addiEa .w 1 (.dreg 0)) 4 ∧ decodeWords [0xE300] = .ok (.aslReg .b (.imm 1) 0) 2 ∧
  decodeWords [0x08D0, 0x0003] = .ok (.bsetN 3 (.ind 0)) 4 ∧ decodeWords [0x51C8, 0xFFFE] = .ok (.dbcc .f 0 0xFFFE) 4 ∧
  decodeWords [0x46FC, 0x2000] = .ok (.moveToSr (.imm 0x2000)) 4 ∧
  decodeZ80 [0xED, 0x00] = .unknown .ed 0 ∧ decodeZ80 [0xDD, 0xDD] = .unknown .dd 0xDD ∧
  decodeWords [0x4AFB] = .unknown .m68k 0x4AFB

/-! ### Reset -/

/-- ResetCalls: `reset()` of the Z80 gives every value of R78, of the 68000 every value of R79, and no condition is returned;
nothing else changes. Without an image the 68000's raises NoImage, leaves it faulted and its registers unspecified, and changes
neither memory nor the Z80 (10_state.md R78, R79; 60 R1202, R1203; 70 R1300, R1301). Marked in the spec as its own inference:
R78, R1300 (D12); R79, R1301 (D13); R1202 (D29); R1203 (D56). -/
def Obligations.ResetCalls : Prop :=
  ∀ s : State,
    let long (a : Long) := (Loc.mem a).value s .l
    let begun := { s with fatal := none }
    (∃ z : Z80, runCall (.reset .z80) s = .next { begun with z := z } ∧
      (z.af = 0 ∧ z.bc = 0 ∧ z.de = 0 ∧ z.hl = 0 ∧ z.afAlt = 0 ∧ z.bcAlt = 0 ∧ z.deAlt = 0 ∧ z.hlAlt = 0) ∧
      (z.ix = 0 ∧ z.iy = 0 ∧ z.sp = 0 ∧ z.pc = 0 ∧ z.i = 0 ∧ z.r = 0 ∧ z.wz = 0) ∧
      (z.iff1 = false ∧ z.iff2 = false ∧ z.im = .im0) ∧
      z.halted = false ∧ z.eiDelay = false ∧ z.nmiPending = false ∧ z.faulted = none) ∧
    (s.bus.rom ≠ none → ∃ m : M68k, runCall (.reset .m68k) s = .next { begun with m := m } ∧
      (∀ n : Fin 8, m.d[n] = 0) ∧ (∀ n : Fin 7, m.a[n] = 0) ∧ m.a[7] = long 0 ∧ m.otherSP = 0 ∧ m.pc = long 4 ∧
      m.sr = 0x2700 ∧ m.stopped = false ∧ m.nmi7Pending = false ∧ m.faulted = none) ∧
    (s.bus.rom = none → ∃ m : M68k, m.faulted = some .noImage ∧
      runCall (.reset .m68k) s = .next { s with m := m, fatal := some .noImage, draws := s.draws + 1 })

/-- ResetState: `State.reset` is a state both resets lead to, and what the model chose beside it: an image of length 0, RAM that
reads 0x00, the default controller ports, no request, no port answer, the 68000's turn and no script, nothing output or
returned, no free value drawn, PC0 = 0 (logs 1, 2, 3, 5, 10, 11; 10_state.md R78, R79; 00_scope.md R17). Marked in the spec as
its own inference: R78 (D12); R79 (D13). -/
def Obligations.ResetState : Prop :=
  runCall (.reset .z80) State.reset = .next State.reset ∧ runCall (.reset .m68k) State.reset = .next State.reset ∧
  (State.reset.bus.rom = some ⟨0, []⟩ ∧ State.reset.bus.zram = [] ∧ State.reset.bus.wram = [] ∧
    State.reset.bus.pads = [0xA10002, 0xA10003, 0xA10004, 0xA10005, 0xA10006, 0xA10007]) ∧
  (State.reset.host.ipl = 0 ∧ State.reset.host.z80Int = false ∧ State.reset.host.z80IntData = 0xFF ∧
    State.reset.host.ports = [] ∧ State.reset.host.turn = .m68k ∧ State.reset.host.script = []) ∧
  State.reset.events = [] ∧ State.reset.cycles = 0 ∧ State.reset.fatal = none ∧ State.reset.draws = 0 ∧ State.reset.m.pc0 = 0

/-- ResetKeepsForm: the invariant holds after reset (10_state.md R72, R76). Marked in the spec as its own inference: R72
(general knowledge, D45). -/
def Obligations.ResetKeepsForm : Prop := State.reset.wf = true

/-- StepKeepsForm: every step that goes on keeps the memories canonical and inside their sizes and SR's reserved bits 0
(10_state.md R72, R76; 20_memory.md R151). Marked in the spec as its own inference: R72 (general knowledge, D45). -/
def Obligations.StepKeepsForm : Prop := ∀ s t : State, s.wf = true → step s = .next t → t.wf = true

/-! ### Steps -/

/-- StepRunsZ80: with nothing pending, a Z80 step runs the decoded instruction: PC past it, R counted per opcode fetch, eiDelay
cleared first; so does the block's step where the host's script is empty and the turn is the Z80's (30_encoding.md R257 to R259;
60 R1270). The bytes are read together (log 13); what the host's turn is, is the model's choice (log 1). Marked in the spec as
its own inference: R257 (general knowledge, D44); R259 (general knowledge); R1270 (general knowledge, D32, D24, D25, D26,
D28). -/
def Obligations.StepRunsZ80 : Prop :=
  ∀ (s : State) (i : Instr) (len : Nat),
    let pc := s.z.pc
    let b (k : Word) := Bus.readZ s.bus (pc + k)
    let fetches : Byte := if b 0 ∈ [0xCB, 0xED, 0xDD, 0xFD] then 2 else 1
    let u := { s with z := { s.z with
      eiDelay := false, pc := pc + BitVec.ofNat 16 len, r := (s.z.r &&& 0x80) ||| ((s.z.r + fetches) &&& 0x7F) } }
    s.z.faulted = none → s.z.nmiPending = false → (s.host.z80Int && s.z.iff1 && !s.z.eiDelay) = false → s.z.halted = false →
    decodeZ80 [b 0, b 1, b 2, b 3] = .ok i len →
    (∀ t, exec i u = .next t → stepZ80 s = .next t) ∧
    (s.host.script = [] → s.host.turn = .z80 → ∀ t, exec i { u with fatal := none } = .next t → step s = .next t)

/-- StepRunsM68k: with nothing pending, a 68000 step runs the decoded instruction with PC0 latched and PC past it; then, where T
was 1 and the instruction took no illegal, line or privilege exception, the trace exception; then the cycle count, a free
positive number. A fatal condition of the instruction, or of the trace exception on an odd supervisor stack, faults the CPU with
the bytes that could have been written unspecified. So does the block's step where the host's script is empty and the turn is
the 68000's (60 R1202, R1260, R1262, R1263; 47 R1100; 30_encoding.md R274; 20_memory.md R163; logs 1, 6, 7). Marked in the spec
as its own inference: R1202 (D29); R1260 (D42, D47); R1262 (general knowledge, D28, D53); R1263 (D28, D58); R1100 (general
knowledge, D41); R163 (D6). -/
def Obligations.StepRunsM68k : Prop :=
  ∀ (s : State) (i : Instr) (len : Nat),
    let pc := s.m.pc
    let w (k : BitVec 24) : Word := Bus.readM s.bus (pc.extractLsb' 0 24 + k) ++ Bus.readM s.bus (pc.extractLsb' 0 24 + k + 1)
    let u := { s with m := { s.m with pc0 := pc, pc := pc + BitVec.ofNat 32 len } }
    let excluded := i = .illegal ∨ (∃ x, i = .lineA x) ∨ (∃ x, i = .lineF x) ∨
      (privileged i = true ∧ s.m.sr.getLsbD 13 = false)
    let counted (t : State) := { t with cycles := Config.m68kCycles t.draws, draws := t.draws + 1 }
    let odd (t : State) : Fault := .misalignedAccess ((supervisorSp t - 4).extractLsb' 0 24)
    let runs (o : Host.Outcome State Fault Refusal) (u : State) :=
      (∀ f, exec i u = .fault f → o = .next (faultM68k u f (storesOf i u))) ∧
      ∀ t, exec i u = .next t →
        (s.m.sr.getLsbD 15 = false ∨ excluded → o = .next (counted t)) ∧
        (s.m.sr.getLsbD 15 = true → ¬ excluded → isEven (supervisorSp t) = true →
          o = .next (counted (afterException t 0x24 t.m.pc))) ∧
        (s.m.sr.getLsbD 15 = true → ¬ excluded → isEven (supervisorSp t) = false →
          o = .next (faultM68k t (odd t) (storesOf i u ++ frameBytes t)))
    s.m.faulted = none → s.m.nmi7Pending = false → s.host.ipl.val ≤ (s.m.sr.extractLsb' 8 3).toNat → s.m.stopped = false →
    isEven pc = true → decodeWords [w 0, w 2, w 4, w 6, w 8] = .ok i len →
    runs (stepM68k s) u ∧ (s.host.script = [] → s.host.turn = .m68k → runs (step s) { u with fatal := none })

/-- FatalLeaves: what a fatal condition leaves: the CPU faulted with it and otherwise unspecified, as are the bytes that could
have been written, of which the Z80 has none; the condition returned; every other thing as it was, and the form of the state
kept (`AfterFatal`; 60 R1200, R1202; 10_state.md R63, R74; logs 7, 21). Marked in the spec as its own inference: R1200 (D50);
R1202 (D29); R63 (D24, D25, D26, D29); R74 (D23, D27, D29). -/
def Sys2Proof.Claims.FatalLeaves : Prop :=
  ∀ (s : State) (f : Fault) (addrs : List (BitVec 24)),
    (AfterFatal .z80 f [] s (faultZ80 s f) ∧ (faultZ80 s f).bus = s.bus) ∧
    AfterFatal .m68k f addrs s (faultM68k s f addrs) ∧
    (s.wf = true → (faultZ80 s f).wf = true ∧ (faultM68k s f addrs).wf = true)

/-- FaultedSteps: a faulted CPU returns its condition again and changes nothing; an empty slot raises UnknownOpcode with its map
and opcode, an odd 68000 PC MisalignedAccess, no byte of memory being written (60 R1201, R1202; 30_encoding.md R254, R274;
20_memory.md R163; log 7). Marked in the spec as its own inference: R1201 (D6, D24); R1202 (D29); R163 (D6). -/
def Sys2Proof.Claims.FaultedSteps : Prop :=
  ∀ (s : State) (map : OpMap) (op : Nat) (f : Fault),
    (s.z.faulted = some f → stepZ80 s = .next { s with fatal := some f }) ∧
    (s.m.faulted = some f → stepM68k s = .next { s with fatal := some f }) ∧
    (let b (k : Word) := Bus.readZ s.bus (s.z.pc + k)
     s.z.faulted = none → s.z.nmiPending = false → (s.host.z80Int && s.z.iff1 && !s.z.eiDelay) = false →
     s.z.halted = false → decodeZ80 [b 0, b 1, b 2, b 3] = .unknown map op →
       stepZ80 s = .next (faultZ80 s (.unknownOpcode map op))) ∧
    (let a : BitVec 24 := s.m.pc.extractLsb' 0 24
     let w (k : BitVec 24) : Word := Bus.readM s.bus (a + k) ++ Bus.readM s.bus (a + k + 1)
     s.m.faulted = none → s.m.nmi7Pending = false → s.host.ipl.val ≤ (s.m.sr.extractLsb' 8 3).toNat → s.m.stopped = false →
     (isEven s.m.pc = false → stepM68k s = .next (faultM68k s (.misalignedAccess a) [])) ∧
     (isEven s.m.pc = true → decodeWords [w 0, w 2, w 4, w 6, w 8] = .unknown map op →
       stepM68k s = .next (faultM68k s (.unknownOpcode map op) [])))

/-- StepAnswers: the block's step, and a step of either CPU, always answer a next state, a fatal condition being one: the other
CPU and the host go on (60 R1200, R1202; 00_scope.md R10; log 7). Marked in the spec as its own inference: R1200 (D50); R1202
(D29); R10 (D28, D50). -/
def Sys2Proof.Claims.StepAnswers : Prop :=
  ∀ s : State, Runs s ∧ (∃ t, stepZ80 s = .next t) ∧ ∃ t, stepM68k s = .next t

/-- StepStops: what a fatal condition leaves, when a step meets one, and that every step goes on: `FatalLeaves`, `FaultedSteps`, `StepAnswers`. -/
def Obligations.StepStops : Prop := Claims.FatalLeaves ∧ Claims.FaultedSteps ∧ Claims.StepAnswers

/-- Z80Interrupts: NMI acceptance, the three modes of a maskable interrupt, IM 0 with a byte that is no RST (the acknowledge is
output, then the condition is fatal), and the halted idle step, in their order of priority (60 R1202, R1270 to R1272; log 7).
Marked in the spec as its own inference: R1202 (D29); R1270 (general knowledge, D32, D24, D25, D26, D28); R1271 (D55); R1272
(D24, D57). -/
def Obligations.Z80Interrupts : Prop :=
  ∀ s : State, s.z.faulted = none →
    let r := (s.z.r &&& 0x80) ||| ((s.z.r + 1) &&& 0x7F)
    let pushed := Bus.writeZ (Bus.writeZ s.bus (s.z.sp - 1) (s.z.pc.extractLsb' 8 8)) (s.z.sp - 2) (s.z.pc.extractLsb' 0 8)
    let wants := s.host.z80Int && s.z.iff1 && !s.z.eiDelay
    let data := s.host.z80IntData
    let accepted (t : Word) (n : Nat) : State := { s with
      z := { s.z with
        halted := false, r := r, iff1 := false, iff2 := false, sp := s.z.sp - 2, pc := t, wz := t },
      bus := pushed, events := s.events ++ [.intAckZ80], cycles := n }
    (s.z.nmiPending = true → stepZ80 s = .next { s with
      z := { s.z with
        nmiPending := false, halted := false, r := r, iff1 := false, sp := s.z.sp - 2, pc := 0x0066, wz := 0x0066 }
      bus := pushed, cycles := 11 }) ∧
    (s.z.nmiPending = false → wants = true →
      (s.z.im = .im0 → data &&& 0xC7 = 0xC7 → stepZ80 s = .next (accepted ((data &&& 0x38).zeroExtend 16) 13)) ∧
      (s.z.im = .im0 → data &&& 0xC7 ≠ 0xC7 → stepZ80 s =
        .next (faultZ80 { s with events := s.events ++ [.intAckZ80] } (.im0DataNotRst data))) ∧
      (s.z.im = .im1 → stepZ80 s = .next (accepted 0x0038 13)) ∧
      (s.z.im = .im2 → stepZ80 s = .next (accepted
        (Bus.readZ pushed ((s.z.i ++ data) + 1) ++ Bus.readZ pushed (s.z.i ++ data)) 19))) ∧
    (s.z.nmiPending = false → wants = false → s.z.halted = true →
      stepZ80 s = .next { s with z := { s.z with r := r }, cycles := 4 })

/-- M68kInterrupts: acceptance of m68kIpl above the mask, or of the latched level 7, through its autovector with the mask raised
to the level; on an odd supervisor stack MisalignedAccess, with the bytes of the frame unspecified; the stopped idle step. Cycle
counts are free positive numbers (60 R1202, R1260, R1261, R1263; 10_state.md R74; logs 6, 7, 14). Marked in the spec as its own
inference: R1202 (D29); R1260 (D42, D47); R1261 (D23, D31); R1263 (D28, D58); R74 (D23, D27, D29). -/
def Obligations.M68kInterrupts : Prop :=
  ∀ s : State, s.m.faulted = none →
    let mask := (s.m.sr.extractLsb' 8 3).toNat
    let accepted (level : Nat) : State :=
      let t := afterException s (0x64 + 4 * (level - 1)) s.m.pc
      { t with
        m := { t.m with
          sr := (t.m.sr &&& 0xF8FF) ||| BitVec.ofNat 16 (level * 0x100)
          nmi7Pending := if level = 7 then false else t.m.nmi7Pending }
        events := t.events ++ [.intAck68k level], cycles := Config.m68kCycles t.draws, draws := t.draws + 1 }
    (isEven (supervisorSp s) = true →
      (s.host.ipl.val > mask → stepM68k s = .next (accepted s.host.ipl.val)) ∧
      (s.host.ipl.val ≤ mask → s.m.nmi7Pending = true → stepM68k s = .next (accepted 7))) ∧
    (isEven (supervisorSp s) = false → s.host.ipl.val > mask ∨ s.m.nmi7Pending = true →
      stepM68k s = .next (faultM68k s (.misalignedAccess ((supervisorSp s - 4).extractLsb' 0 24)) (frameBytes s))) ∧
    (s.host.ipl.val ≤ mask → s.m.nmi7Pending = false → s.m.stopped = true →
      stepM68k s = .next { s with cycles := Config.m68kIdleCycles })

/-- HostTurns: the head of the host's script drives its inputs in turn and makes its call, an empty one steps the CPU whose turn
it is; a call returns a fatal condition only where it meets one; m68kIpl rising to 7 sets the latch, z80Nmi sets nmiPending
(00_scope.md R10, R12; 10_state.md R74; 60 R1271; log 1). Marked in the spec as its own inference: R10 (D28, D50); R12 (D9, D23,
D24, D38); R74 (D23, D27, D29); R1271 (D55). -/
def Obligations.HostTurns : Prop :=
  ∀ (s : State) (t : HostTurn) (rest : List HostTurn) (level : Fin 8) (b : Bool) (v : Byte) (d : Drive) (ds : List Drive),
    (s.host.script = [] → step s = runCall (.execute s.host.turn) s) ∧
    (s.host.script = t :: rest →
      step s = runCall t.call (applyDrives { s with host := { s.host with script := rest } } t.drives)) ∧
    (stepCpu .z80 s = stepZ80 s ∧ stepCpu .m68k s = stepM68k s ∧ ∀ cpu,
      runCall (.execute cpu) s = stepCpu cpu { s with fatal := none }) ∧
    (applyDrives s [] = s ∧ applyDrives s (d :: ds) = applyDrives (applyDrive s d) ds) ∧
    applyDrive s (.ipl level) = { s with
      host := { s.host with ipl := level }
      m := { s.m with nmi7Pending := s.m.nmi7Pending || decide (s.host.ipl.val < 7 ∧ level.val = 7) } } ∧
    applyDrive s (.z80Int b) = { s with host := { s.host with z80Int := b } } ∧
    applyDrive s .z80Nmi = { s with z := { s.z with nmiPending := true } } ∧
    applyDrive s (.z80IntData v) = { s with host := { s.host with z80IntData := v } } ∧
    ∀ port q : Word, portAnswer (applyDrive s (.portIn port v)).host.ports q.toNat =
      if q = port then some v else portAnswer s.host.ports q.toNat

/-! ### The whole machine -/

/-- UserModeContained: a 68000 instruction run in user mode that stays in user mode leaves T, S, the interrupt mask and the
supervisor stack pointer as they were, and does not stop the CPU (60 R1280; 10_state.md R72; 47 R1100). Marked in the spec as
its own inference: R72 (general knowledge, D45); R1100 (general knowledge, D41). -/
def Obligations.UserModeContained : Prop :=
  ∀ (i : Instr) (s t : State), i.cpu = .m68k → s.m.sr.getLsbD 13 = false → exec i s = .next t → t.m.sr.getLsbD 13 = false →
    t.m.sr >>> 5 = s.m.sr >>> 5 ∧ t.m.otherSP = s.m.otherSP ∧ t.m.stopped = s.m.stopped

/-- Isolation: no Z80 instruction can fail, and none changes the 68000, its RAM, the image, the port list or an input; no 68000
instruction changes a Z80 register, the image, the port list or an input (60 R1273, R1283; 20_memory.md R157, R158). Marked in
the spec as its own inference: R1273 (D10, D11); R1283, R157 (D48). -/
def Obligations.Isolation : Prop :=
  ∀ (i : Instr) (s : State),
    (i.cpu = .z80 → ∃ t, exec i s = .next t ∧ t.m = s.m ∧ t.bus.wram = s.bus.wram ∧ t.bus.rom = s.bus.rom ∧
      t.bus.pads = s.bus.pads ∧ t.host = s.host) ∧
    (i.cpu = .m68k → ∀ t, exec i s = .next t → t.z = s.z ∧ t.bus.rom = s.bus.rom ∧ t.bus.pads = s.bus.pads ∧ t.host = s.host)

end Statements
end

