-- ==== Sys2Proof/Laws/State.lean ====
section
/-! SUPPORT. One lemma per field per update, so that no proof unfolds a record update, and reads after writes of the
register files. -/

namespace Sys2Proof.Machine

/-! ### The updates of State -/

@[simp] theorem State.setZ_z (s : State) (z : Z80) : (s.setZ z).z = z := rfl
@[simp] theorem State.setZ_m (s : State) (z : Z80) : (s.setZ z).m = s.m := rfl
@[simp] theorem State.setZ_bus (s : State) (z : Z80) : (s.setZ z).bus = s.bus := rfl
@[simp] theorem State.setZ_host (s : State) (z : Z80) : (s.setZ z).host = s.host := rfl
@[simp] theorem State.setZ_events (s : State) (z : Z80) : (s.setZ z).events = s.events := rfl
@[simp] theorem State.setZ_cycles (s : State) (z : Z80) : (s.setZ z).cycles = s.cycles := rfl
@[simp] theorem State.setZ_fatal (s : State) (z : Z80) : (s.setZ z).fatal = s.fatal := rfl
@[simp] theorem State.setZ_draws (s : State) (z : Z80) : (s.setZ z).draws = s.draws := rfl

@[simp] theorem State.setM_z (s : State) (m : M68k) : (s.setM m).z = s.z := rfl
@[simp] theorem State.setM_m (s : State) (m : M68k) : (s.setM m).m = m := rfl
@[simp] theorem State.setM_bus (s : State) (m : M68k) : (s.setM m).bus = s.bus := rfl
@[simp] theorem State.setM_host (s : State) (m : M68k) : (s.setM m).host = s.host := rfl
@[simp] theorem State.setM_events (s : State) (m : M68k) : (s.setM m).events = s.events := rfl
@[simp] theorem State.setM_cycles (s : State) (m : M68k) : (s.setM m).cycles = s.cycles := rfl
@[simp] theorem State.setM_fatal (s : State) (m : M68k) : (s.setM m).fatal = s.fatal := rfl
@[simp] theorem State.setM_draws (s : State) (m : M68k) : (s.setM m).draws = s.draws := rfl

@[simp] theorem State.setBus_z (s : State) (b : Bus) : (s.setBus b).z = s.z := rfl
@[simp] theorem State.setBus_m (s : State) (b : Bus) : (s.setBus b).m = s.m := rfl
@[simp] theorem State.setBus_bus (s : State) (b : Bus) : (s.setBus b).bus = b := rfl
@[simp] theorem State.setBus_host (s : State) (b : Bus) : (s.setBus b).host = s.host := rfl
@[simp] theorem State.setBus_events (s : State) (b : Bus) : (s.setBus b).events = s.events := rfl
@[simp] theorem State.setBus_cycles (s : State) (b : Bus) : (s.setBus b).cycles = s.cycles := rfl
@[simp] theorem State.setBus_fatal (s : State) (b : Bus) : (s.setBus b).fatal = s.fatal := rfl
@[simp] theorem State.setBus_draws (s : State) (b : Bus) : (s.setBus b).draws = s.draws := rfl

@[simp] theorem State.emit_z (s : State) (e : Event) : (s.emit e).z = s.z := rfl
@[simp] theorem State.emit_m (s : State) (e : Event) : (s.emit e).m = s.m := rfl
@[simp] theorem State.emit_bus (s : State) (e : Event) : (s.emit e).bus = s.bus := rfl
@[simp] theorem State.emit_host (s : State) (e : Event) : (s.emit e).host = s.host := rfl
@[simp] theorem State.emit_events (s : State) (e : Event) : (s.emit e).events = s.events ++ [e] := rfl
@[simp] theorem State.emit_cycles (s : State) (e : Event) : (s.emit e).cycles = s.cycles := rfl
@[simp] theorem State.emit_fatal (s : State) (e : Event) : (s.emit e).fatal = s.fatal := rfl
@[simp] theorem State.emit_draws (s : State) (e : Event) : (s.emit e).draws = s.draws := rfl

@[simp] theorem State.took_z (s : State) (n : Nat) : (s.took n).z = s.z := rfl
@[simp] theorem State.took_m (s : State) (n : Nat) : (s.took n).m = s.m := rfl
@[simp] theorem State.took_bus (s : State) (n : Nat) : (s.took n).bus = s.bus := rfl
@[simp] theorem State.took_host (s : State) (n : Nat) : (s.took n).host = s.host := rfl
@[simp] theorem State.took_events (s : State) (n : Nat) : (s.took n).events = s.events := rfl
@[simp] theorem State.took_cycles (s : State) (n : Nat) : (s.took n).cycles = n := rfl
@[simp] theorem State.took_fatal (s : State) (n : Nat) : (s.took n).fatal = s.fatal := rfl
@[simp] theorem State.took_draws (s : State) (n : Nat) : (s.took n).draws = s.draws := rfl

@[simp] theorem State.raised_z (s : State) (f : Fault) : (s.raised f).z = s.z := rfl
@[simp] theorem State.raised_m (s : State) (f : Fault) : (s.raised f).m = s.m := rfl
@[simp] theorem State.raised_bus (s : State) (f : Fault) : (s.raised f).bus = s.bus := rfl
@[simp] theorem State.raised_host (s : State) (f : Fault) : (s.raised f).host = s.host := rfl
@[simp] theorem State.raised_events (s : State) (f : Fault) : (s.raised f).events = s.events := rfl
@[simp] theorem State.raised_cycles (s : State) (f : Fault) : (s.raised f).cycles = s.cycles := rfl
@[simp] theorem State.raised_fatal (s : State) (f : Fault) : (s.raised f).fatal = some f := rfl
@[simp] theorem State.raised_draws (s : State) (f : Fault) : (s.raised f).draws = s.draws := rfl

@[simp] theorem State.begun_z (s : State) : (s.begun).z = s.z := rfl
@[simp] theorem State.begun_m (s : State) : (s.begun).m = s.m := rfl
@[simp] theorem State.begun_bus (s : State) : (s.begun).bus = s.bus := rfl
@[simp] theorem State.begun_host (s : State) : (s.begun).host = s.host := rfl
@[simp] theorem State.begun_events (s : State) : (s.begun).events = s.events := rfl
@[simp] theorem State.begun_cycles (s : State) : (s.begun).cycles = s.cycles := rfl
@[simp] theorem State.begun_fatal (s : State) : (s.begun).fatal = none := rfl
@[simp] theorem State.begun_draws (s : State) : (s.begun).draws = s.draws := rfl

@[simp] theorem State.drawn_z (s : State) : (s.drawn).z = s.z := rfl
@[simp] theorem State.drawn_m (s : State) : (s.drawn).m = s.m := rfl
@[simp] theorem State.drawn_bus (s : State) : (s.drawn).bus = s.bus := rfl
@[simp] theorem State.drawn_host (s : State) : (s.drawn).host = s.host := rfl
@[simp] theorem State.drawn_events (s : State) : (s.drawn).events = s.events := rfl
@[simp] theorem State.drawn_cycles (s : State) : (s.drawn).cycles = s.cycles := rfl
@[simp] theorem State.drawn_fatal (s : State) : (s.drawn).fatal = s.fatal := rfl
@[simp] theorem State.drawn_draws (s : State) : (s.drawn).draws = s.draws + 1 := rfl

/-! ### The updates of the 68000 -/

@[simp] theorem setD_z (s : State) (n : Fin 8) (v : Long) : (setD s n v).z = s.z := rfl
@[simp] theorem setD_bus (s : State) (n : Fin 8) (v : Long) : (setD s n v).bus = s.bus := rfl
@[simp] theorem setD_host (s : State) (n : Fin 8) (v : Long) : (setD s n v).host = s.host := rfl
@[simp] theorem setD_events (s : State) (n : Fin 8) (v : Long) : (setD s n v).events = s.events := rfl
@[simp] theorem setD_cycles (s : State) (n : Fin 8) (v : Long) : (setD s n v).cycles = s.cycles := rfl
@[simp] theorem setD_fatal (s : State) (n : Fin 8) (v : Long) : (setD s n v).fatal = s.fatal := rfl
@[simp] theorem setD_draws (s : State) (n : Fin 8) (v : Long) : (setD s n v).draws = s.draws := rfl
@[simp] theorem setD_m_d (s : State) (n : Fin 8) (v : Long) : (setD s n v).m.d = s.m.d.set n v := rfl
@[simp] theorem setD_m_a (s : State) (n : Fin 8) (v : Long) : (setD s n v).m.a = s.m.a := rfl
@[simp] theorem setD_m_otherSP (s : State) (n : Fin 8) (v : Long) : (setD s n v).m.otherSP = s.m.otherSP := rfl
@[simp] theorem setD_m_pc (s : State) (n : Fin 8) (v : Long) : (setD s n v).m.pc = s.m.pc := rfl
@[simp] theorem setD_m_pc0 (s : State) (n : Fin 8) (v : Long) : (setD s n v).m.pc0 = s.m.pc0 := rfl
@[simp] theorem setD_m_sr (s : State) (n : Fin 8) (v : Long) : (setD s n v).m.sr = s.m.sr := rfl
@[simp] theorem setD_m_stopped (s : State) (n : Fin 8) (v : Long) : (setD s n v).m.stopped = s.m.stopped := rfl
@[simp] theorem setD_m_nmi7Pending (s : State) (n : Fin 8) (v : Long) : (setD s n v).m.nmi7Pending = s.m.nmi7Pending := rfl
@[simp] theorem setD_m_faulted (s : State) (n : Fin 8) (v : Long) : (setD s n v).m.faulted = s.m.faulted := rfl

@[simp] theorem setAn_z (s : State) (n : Fin 8) (v : Long) : (setAn s n v).z = s.z := rfl
@[simp] theorem setAn_bus (s : State) (n : Fin 8) (v : Long) : (setAn s n v).bus = s.bus := rfl
@[simp] theorem setAn_host (s : State) (n : Fin 8) (v : Long) : (setAn s n v).host = s.host := rfl
@[simp] theorem setAn_events (s : State) (n : Fin 8) (v : Long) : (setAn s n v).events = s.events := rfl
@[simp] theorem setAn_cycles (s : State) (n : Fin 8) (v : Long) : (setAn s n v).cycles = s.cycles := rfl
@[simp] theorem setAn_fatal (s : State) (n : Fin 8) (v : Long) : (setAn s n v).fatal = s.fatal := rfl
@[simp] theorem setAn_draws (s : State) (n : Fin 8) (v : Long) : (setAn s n v).draws = s.draws := rfl
@[simp] theorem setAn_m_d (s : State) (n : Fin 8) (v : Long) : (setAn s n v).m.d = s.m.d := rfl
@[simp] theorem setAn_m_a (s : State) (n : Fin 8) (v : Long) : (setAn s n v).m.a = s.m.a.set n v := rfl
@[simp] theorem setAn_m_otherSP (s : State) (n : Fin 8) (v : Long) : (setAn s n v).m.otherSP = s.m.otherSP := rfl
@[simp] theorem setAn_m_pc (s : State) (n : Fin 8) (v : Long) : (setAn s n v).m.pc = s.m.pc := rfl
@[simp] theorem setAn_m_pc0 (s : State) (n : Fin 8) (v : Long) : (setAn s n v).m.pc0 = s.m.pc0 := rfl
@[simp] theorem setAn_m_sr (s : State) (n : Fin 8) (v : Long) : (setAn s n v).m.sr = s.m.sr := rfl
@[simp] theorem setAn_m_stopped (s : State) (n : Fin 8) (v : Long) : (setAn s n v).m.stopped = s.m.stopped := rfl
@[simp] theorem setAn_m_nmi7Pending (s : State) (n : Fin 8) (v : Long) : (setAn s n v).m.nmi7Pending = s.m.nmi7Pending := rfl
@[simp] theorem setAn_m_faulted (s : State) (n : Fin 8) (v : Long) : (setAn s n v).m.faulted = s.m.faulted := rfl

@[simp] theorem setPc_z (s : State) (v : Long) : (setPc s v).z = s.z := rfl
@[simp] theorem setPc_bus (s : State) (v : Long) : (setPc s v).bus = s.bus := rfl
@[simp] theorem setPc_host (s : State) (v : Long) : (setPc s v).host = s.host := rfl
@[simp] theorem setPc_events (s : State) (v : Long) : (setPc s v).events = s.events := rfl
@[simp] theorem setPc_cycles (s : State) (v : Long) : (setPc s v).cycles = s.cycles := rfl
@[simp] theorem setPc_fatal (s : State) (v : Long) : (setPc s v).fatal = s.fatal := rfl
@[simp] theorem setPc_draws (s : State) (v : Long) : (setPc s v).draws = s.draws := rfl
@[simp] theorem setPc_m_d (s : State) (v : Long) : (setPc s v).m.d = s.m.d := rfl
@[simp] theorem setPc_m_a (s : State) (v : Long) : (setPc s v).m.a = s.m.a := rfl
@[simp] theorem setPc_m_otherSP (s : State) (v : Long) : (setPc s v).m.otherSP = s.m.otherSP := rfl
@[simp] theorem setPc_m_pc (s : State) (v : Long) : (setPc s v).m.pc = v := rfl
@[simp] theorem setPc_m_pc0 (s : State) (v : Long) : (setPc s v).m.pc0 = s.m.pc0 := rfl
@[simp] theorem setPc_m_sr (s : State) (v : Long) : (setPc s v).m.sr = s.m.sr := rfl
@[simp] theorem setPc_m_stopped (s : State) (v : Long) : (setPc s v).m.stopped = s.m.stopped := rfl
@[simp] theorem setPc_m_nmi7Pending (s : State) (v : Long) : (setPc s v).m.nmi7Pending = s.m.nmi7Pending := rfl
@[simp] theorem setPc_m_faulted (s : State) (v : Long) : (setPc s v).m.faulted = s.m.faulted := rfl

@[simp] theorem setSr_z (s : State) (v : Word) : (setSr s v).z = s.z := rfl
@[simp] theorem setSr_bus (s : State) (v : Word) : (setSr s v).bus = s.bus := rfl
@[simp] theorem setSr_host (s : State) (v : Word) : (setSr s v).host = s.host := rfl
@[simp] theorem setSr_events (s : State) (v : Word) : (setSr s v).events = s.events := rfl
@[simp] theorem setSr_cycles (s : State) (v : Word) : (setSr s v).cycles = s.cycles := rfl
@[simp] theorem setSr_fatal (s : State) (v : Word) : (setSr s v).fatal = s.fatal := rfl
@[simp] theorem setSr_draws (s : State) (v : Word) : (setSr s v).draws = s.draws := rfl
@[simp] theorem setSr_m_d (s : State) (v : Word) : (setSr s v).m.d = s.m.d := rfl
@[simp] theorem setSr_m_a (s : State) (v : Word) : (setSr s v).m.a = s.m.a := rfl
@[simp] theorem setSr_m_otherSP (s : State) (v : Word) : (setSr s v).m.otherSP = s.m.otherSP := rfl
@[simp] theorem setSr_m_pc (s : State) (v : Word) : (setSr s v).m.pc = s.m.pc := rfl
@[simp] theorem setSr_m_pc0 (s : State) (v : Word) : (setSr s v).m.pc0 = s.m.pc0 := rfl
@[simp] theorem setSr_m_sr (s : State) (v : Word) : (setSr s v).m.sr = v := rfl
@[simp] theorem setSr_m_stopped (s : State) (v : Word) : (setSr s v).m.stopped = s.m.stopped := rfl
@[simp] theorem setSr_m_nmi7Pending (s : State) (v : Word) : (setSr s v).m.nmi7Pending = s.m.nmi7Pending := rfl
@[simp] theorem setSr_m_faulted (s : State) (v : Word) : (setSr s v).m.faulted = s.m.faulted := rfl

@[simp] theorem setDsz_z (s : State) (n : Fin 8) (sz : Size) (v : Long) : (setDsz s n sz v).z = s.z := rfl
@[simp] theorem setDsz_bus (s : State) (n : Fin 8) (sz : Size) (v : Long) : (setDsz s n sz v).bus = s.bus := rfl
@[simp] theorem setDsz_host (s : State) (n : Fin 8) (sz : Size) (v : Long) : (setDsz s n sz v).host = s.host := rfl
@[simp] theorem setDsz_events (s : State) (n : Fin 8) (sz : Size) (v : Long) : (setDsz s n sz v).events = s.events := rfl
@[simp] theorem setDsz_cycles (s : State) (n : Fin 8) (sz : Size) (v : Long) : (setDsz s n sz v).cycles = s.cycles := rfl
@[simp] theorem setDsz_fatal (s : State) (n : Fin 8) (sz : Size) (v : Long) : (setDsz s n sz v).fatal = s.fatal := rfl
@[simp] theorem setDsz_draws (s : State) (n : Fin 8) (sz : Size) (v : Long) : (setDsz s n sz v).draws = s.draws := rfl
@[simp] theorem setDsz_m_d (s : State) (n : Fin 8) (sz : Size) (v : Long) : (setDsz s n sz v).m.d = s.m.d.set n (insertLow sz (getD s n) v) := rfl
@[simp] theorem setDsz_m_a (s : State) (n : Fin 8) (sz : Size) (v : Long) : (setDsz s n sz v).m.a = s.m.a := rfl
@[simp] theorem setDsz_m_otherSP (s : State) (n : Fin 8) (sz : Size) (v : Long) : (setDsz s n sz v).m.otherSP = s.m.otherSP := rfl
@[simp] theorem setDsz_m_pc (s : State) (n : Fin 8) (sz : Size) (v : Long) : (setDsz s n sz v).m.pc = s.m.pc := rfl
@[simp] theorem setDsz_m_pc0 (s : State) (n : Fin 8) (sz : Size) (v : Long) : (setDsz s n sz v).m.pc0 = s.m.pc0 := rfl
@[simp] theorem setDsz_m_sr (s : State) (n : Fin 8) (sz : Size) (v : Long) : (setDsz s n sz v).m.sr = s.m.sr := rfl
@[simp] theorem setDsz_m_stopped (s : State) (n : Fin 8) (sz : Size) (v : Long) : (setDsz s n sz v).m.stopped = s.m.stopped := rfl
@[simp] theorem setDsz_m_nmi7Pending (s : State) (n : Fin 8) (sz : Size) (v : Long) : (setDsz s n sz v).m.nmi7Pending = s.m.nmi7Pending := rfl
@[simp] theorem setDsz_m_faulted (s : State) (n : Fin 8) (sz : Size) (v : Long) : (setDsz s n sz v).m.faulted = s.m.faulted := rfl

@[simp] theorem writeCCR_z (s : State) (v : Byte) : (writeCCR s v).z = s.z := rfl
@[simp] theorem writeCCR_bus (s : State) (v : Byte) : (writeCCR s v).bus = s.bus := rfl
@[simp] theorem writeCCR_host (s : State) (v : Byte) : (writeCCR s v).host = s.host := rfl
@[simp] theorem writeCCR_events (s : State) (v : Byte) : (writeCCR s v).events = s.events := rfl
@[simp] theorem writeCCR_cycles (s : State) (v : Byte) : (writeCCR s v).cycles = s.cycles := rfl
@[simp] theorem writeCCR_fatal (s : State) (v : Byte) : (writeCCR s v).fatal = s.fatal := rfl
@[simp] theorem writeCCR_draws (s : State) (v : Byte) : (writeCCR s v).draws = s.draws := rfl
@[simp] theorem writeCCR_m_d (s : State) (v : Byte) : (writeCCR s v).m.d = s.m.d := rfl
@[simp] theorem writeCCR_m_a (s : State) (v : Byte) : (writeCCR s v).m.a = s.m.a := rfl
@[simp] theorem writeCCR_m_otherSP (s : State) (v : Byte) : (writeCCR s v).m.otherSP = s.m.otherSP := rfl
@[simp] theorem writeCCR_m_pc (s : State) (v : Byte) : (writeCCR s v).m.pc = s.m.pc := rfl
@[simp] theorem writeCCR_m_pc0 (s : State) (v : Byte) : (writeCCR s v).m.pc0 = s.m.pc0 := rfl
@[simp] theorem writeCCR_m_sr (s : State) (v : Byte) : (writeCCR s v).m.sr = (s.m.sr &&& 0xFFE0) ||| (v &&& 0x1F).zeroExtend 16 := rfl
@[simp] theorem writeCCR_m_stopped (s : State) (v : Byte) : (writeCCR s v).m.stopped = s.m.stopped := rfl
@[simp] theorem writeCCR_m_nmi7Pending (s : State) (v : Byte) : (writeCCR s v).m.nmi7Pending = s.m.nmi7Pending := rfl
@[simp] theorem writeCCR_m_faulted (s : State) (v : Byte) : (writeCCR s v).m.faulted = s.m.faulted := rfl

@[simp] theorem swapStacks_z (s : State) : (swapStacks s).z = s.z := rfl
@[simp] theorem swapStacks_bus (s : State) : (swapStacks s).bus = s.bus := rfl
@[simp] theorem swapStacks_host (s : State) : (swapStacks s).host = s.host := rfl
@[simp] theorem swapStacks_events (s : State) : (swapStacks s).events = s.events := rfl
@[simp] theorem swapStacks_cycles (s : State) : (swapStacks s).cycles = s.cycles := rfl
@[simp] theorem swapStacks_fatal (s : State) : (swapStacks s).fatal = s.fatal := rfl
@[simp] theorem swapStacks_draws (s : State) : (swapStacks s).draws = s.draws := rfl
@[simp] theorem swapStacks_m_d (s : State) : (swapStacks s).m.d = s.m.d := rfl
@[simp] theorem swapStacks_m_a (s : State) : (swapStacks s).m.a = s.m.a.set 7 s.m.otherSP := rfl
@[simp] theorem swapStacks_m_otherSP (s : State) : (swapStacks s).m.otherSP = s.m.a[7] := rfl
@[simp] theorem swapStacks_m_pc (s : State) : (swapStacks s).m.pc = s.m.pc := rfl
@[simp] theorem swapStacks_m_pc0 (s : State) : (swapStacks s).m.pc0 = s.m.pc0 := rfl
@[simp] theorem swapStacks_m_sr (s : State) : (swapStacks s).m.sr = s.m.sr := rfl
@[simp] theorem swapStacks_m_stopped (s : State) : (swapStacks s).m.stopped = s.m.stopped := rfl
@[simp] theorem swapStacks_m_nmi7Pending (s : State) : (swapStacks s).m.nmi7Pending = s.m.nmi7Pending := rfl
@[simp] theorem swapStacks_m_faulted (s : State) : (swapStacks s).m.faulted = s.m.faulted := rfl

/-! ### Memory writes of the Z80 -/

@[simp] theorem writeZ8_z (s : State) (a : Word) (v : Byte) : (writeZ8 s a v).z = s.z := rfl
@[simp] theorem writeZ8_m (s : State) (a : Word) (v : Byte) : (writeZ8 s a v).m = s.m := rfl
@[simp] theorem writeZ8_host (s : State) (a : Word) (v : Byte) : (writeZ8 s a v).host = s.host := rfl
@[simp] theorem writeZ8_events (s : State) (a : Word) (v : Byte) : (writeZ8 s a v).events = s.events := rfl
@[simp] theorem writeZ8_cycles (s : State) (a : Word) (v : Byte) : (writeZ8 s a v).cycles = s.cycles := rfl
@[simp] theorem writeZ8_fatal (s : State) (a : Word) (v : Byte) : (writeZ8 s a v).fatal = s.fatal := rfl
@[simp] theorem writeZ8_draws (s : State) (a : Word) (v : Byte) : (writeZ8 s a v).draws = s.draws := rfl
@[simp] theorem writeZ8_bus (s : State) (a : Word) (v : Byte) : (writeZ8 s a v).bus = Bus.writeZ s.bus a v := rfl
@[simp] theorem writeZ16_z (s : State) (a v : Word) : (writeZ16 s a v).z = s.z := rfl
@[simp] theorem writeZ16_m (s : State) (a v : Word) : (writeZ16 s a v).m = s.m := rfl
@[simp] theorem writeZ16_host (s : State) (a v : Word) : (writeZ16 s a v).host = s.host := rfl
@[simp] theorem writeZ16_events (s : State) (a v : Word) : (writeZ16 s a v).events = s.events := rfl
@[simp] theorem writeZ16_cycles (s : State) (a v : Word) : (writeZ16 s a v).cycles = s.cycles := rfl
@[simp] theorem writeZ16_fatal (s : State) (a v : Word) : (writeZ16 s a v).fatal = s.fatal := rfl
@[simp] theorem writeZ16_draws (s : State) (a v : Word) : (writeZ16 s a v).draws = s.draws := rfl

/-! ### Registers of the 68000, read after a write -/

@[simp] theorem getD_setD_same (s : State) (n : Fin 8) (v : Long) : getD (setD s n v) n = v := by
  simp [getD]

theorem getD_setD (s : State) (n k : Fin 8) (v : Long) : getD (setD s n v) k = if n = k then v else getD s k := by
  simp only [getD, setD_m_d]
  split
  · next h => subst h; simp
  · next h => simp [Vector.getElem_set_ne, Fin.val_ne_of_ne h]

@[simp] theorem getAn_setAn_same (s : State) (n : Fin 8) (v : Long) : getAn (setAn s n v) n = v := by
  simp [getAn]

theorem getAn_setAn (s : State) (n k : Fin 8) (v : Long) : getAn (setAn s n v) k = if n = k then v else getAn s k := by
  simp only [getAn, setAn_m_a]
  split
  · next h => subst h; simp
  · next h => simp [Vector.getElem_set_ne, Fin.val_ne_of_ne h]

@[simp] theorem getD_setAn (s : State) (n : Fin 8) (v : Long) (k : Fin 8) : getD (setAn s n v) k = getD s k := rfl
@[simp] theorem getD_setPc (s : State) (v : Long) (k : Fin 8) : getD (setPc s v) k = getD s k := rfl
@[simp] theorem getAn_setPc (s : State) (v : Long) (k : Fin 8) : getAn (setPc s v) k = getAn s k := rfl
@[simp] theorem getD_setSr (s : State) (v : Word) (k : Fin 8) : getD (setSr s v) k = getD s k := rfl
@[simp] theorem getAn_setSr (s : State) (v : Word) (k : Fin 8) : getAn (setSr s v) k = getAn s k := rfl
@[simp] theorem getD_setBus (s : State) (b : Bus) (k : Fin 8) : getD (State.setBus s b) k = getD s k := rfl
@[simp] theorem getAn_setBus (s : State) (b : Bus) (k : Fin 8) : getAn (State.setBus s b) k = getAn s k := rfl
@[simp] theorem getD_setZ (s : State) (z : Z80) (k : Fin 8) : getD (State.setZ s z) k = getD s k := rfl
@[simp] theorem getAn_setZ (s : State) (z : Z80) (k : Fin 8) : getAn (State.setZ s z) k = getAn s k := rfl
@[simp] theorem getD_emit (s : State) (e : Event) (k : Fin 8) : getD (State.emit s e) k = getD s k := rfl
@[simp] theorem getAn_emit (s : State) (e : Event) (k : Fin 8) : getAn (State.emit s e) k = getAn s k := rfl
@[simp] theorem getD_took (s : State) (n : Nat) (k : Fin 8) : getD (State.took s n) k = getD s k := rfl
@[simp] theorem getAn_took (s : State) (n : Nat) (k : Fin 8) : getAn (State.took s n) k = getAn s k := rfl
@[simp] theorem getD_raised (s : State) (f : Fault) (k : Fin 8) : getD (State.raised s f) k = getD s k := rfl
@[simp] theorem getAn_raised (s : State) (f : Fault) (k : Fin 8) : getAn (State.raised s f) k = getAn s k := rfl
@[simp] theorem getD_begun (s : State) (k : Fin 8) : getD (State.begun s) k = getD s k := rfl
@[simp] theorem getAn_begun (s : State) (k : Fin 8) : getAn (State.begun s) k = getAn s k := rfl
@[simp] theorem getD_drawn (s : State) (k : Fin 8) : getD (State.drawn s) k = getD s k := rfl
@[simp] theorem getAn_drawn (s : State) (k : Fin 8) : getAn (State.drawn s) k = getAn s k := rfl
@[simp] theorem getAn_setD (s : State) (n : Fin 8) (v : Long) (k : Fin 8) : getAn (setD s n v) k = getAn s k := rfl
@[simp] theorem getAn_setDsz (s : State) (n : Fin 8) (sz : Size) (v : Long) (k : Fin 8) : getAn (setDsz s n sz v) k = getAn s k := rfl

theorem getD_setDsz_same (s : State) (n : Fin 8) (sz : Size) (v : Long) :
    getD (setDsz s n sz v) n = insertLow sz (getD s n) v := getD_setD_same ..

/-! ### Registers of the Z80, read after a write -/

@[simp] theorem hiByte_pairOf (h l : Byte) : hiByte (pairOf h l) = h := by
  apply BitVec.eq_of_getLsbD_eq
  intro i hi
  simp only [hiByte, pairOf, BitVec.getLsbD_extractLsb', BitVec.getLsbD_append]
  simp [hi]

@[simp] theorem loByte_pairOf (h l : Byte) : loByte (pairOf h l) = l := by
  apply BitVec.eq_of_getLsbD_eq
  intro i hi
  simp only [loByte, pairOf, BitVec.getLsbD_extractLsb', BitVec.getLsbD_append]
  simp [hi]

@[simp] theorem pairOf_hiByte_loByte (w : Word) : pairOf (hiByte w) (loByte w) = w := by
  apply BitVec.eq_of_getLsbD_eq
  intro i hi
  simp only [hiByte, loByte, pairOf, BitVec.getLsbD_extractLsb', BitVec.getLsbD_append]
  split
  · next h => simp [h]
  · next h =>
    have : i - 8 < 8 := by omega
    have h2 : 8 + (i - 8) = i := by omega
    simp [this, h2]

theorem getR_setR_same (z : Z80) (r : Reg8) (v : Byte) : getR (setR z r v) r = v := by
  cases r <;> simp [getR, setR, withHi, withLo]

theorem getR_setR_ne (z : Z80) (r k : Reg8) (v : Byte) (h : r ≠ k) : getR (setR z r v) k = getR z k := by
  cases r <;> cases k <;> simp_all [getR, setR, withHi, withLo]

end Sys2Proof.Machine
end

