-- ==== Sys2Proof/Laws/Memory.lean ====
section
/-! SUPPORT. Memory and the bus: reads after writes, the canonical form and the sizes, which every operation keeps
(20_memory.md R153 to R166; log 3). -/

namespace Sys2Proof.Machine

/-! ### The list of cells -/

theorem Memory.read_write (mem : Memory) (a k : Nat) (v : Byte) (h : Memory.wf mem) :
    Memory.read (Memory.write mem a v) k = if k = a then v else Memory.read mem k := by
  have key : ∀ (mem : Memory) (lo : Nat), Memory.wfFrom lo mem →
      (∀ k, k < lo → Memory.read mem k = 0) ∧
      Memory.read (Memory.write mem a v) k = if k = a then v else Memory.read mem k := by
    intro mem
    induction mem with
    | nil =>
      intro lo _
      refine ⟨fun _ _ => rfl, ?_⟩
      simp only [Memory.write]
      split
      · next hv => subst hv; simp [Memory.read]
      · simp [Memory.read]
    | cons c rest ih =>
      obtain ⟨b, x⟩ := c
      intro lo hw
      simp only [Memory.wfFrom, Bool.and_eq_true, decide_eq_true_eq] at hw
      obtain ⟨hlow, hread⟩ := ih (b + 1) hw.2
      constructor
      · intro k hk
        have : k ≠ b := by omega
        simp only [Memory.read, this, if_false]
        exact hlow k (by omega)
      · simp only [Memory.write]
        by_cases h1 : a < b
        · have ha : Memory.read ((b, x) :: rest) a = 0 := by
            have : a ≠ b := by omega
            simp only [Memory.read, this, if_false]
            exact hlow a (by omega)
          simp only [h1, if_true]
          split
          · next hv =>
            subst hv
            split
            · next hk => subst hk; exact ha
            · rfl
          · by_cases hk : k = a <;> simp [Memory.read, hk]
        · simp only [h1, if_false]
          by_cases h2 : a = b
          · subst h2
            simp only [if_true]
            split
            · next hv =>
              subst hv
              by_cases hk : k = a
              · subst hk; simp [hlow k (by omega)]
              · simp [Memory.read, hk]
            · by_cases hk : k = a <;> simp [Memory.read, hk]
          · simp only [h2, if_false, Memory.read]
            by_cases hk : k = b
            · have : k ≠ a := by omega
              simp [hk, Ne.symm h2]
            · simp only [hk, if_false]
              exact hread
  exact (key mem 0 h).2

theorem Memory.wfFrom_mono (mem : Memory) {lo lo' : Nat} (hl : lo' ≤ lo) (h : Memory.wfFrom lo mem) :
    Memory.wfFrom lo' mem := by
  cases mem with
  | nil => rfl
  | cons c rest =>
    simp only [Memory.wfFrom, Bool.and_eq_true, decide_eq_true_eq] at h ⊢
    exact ⟨⟨by omega, h.1.2⟩, h.2⟩

theorem Memory.wfFrom_write (mem : Memory) (a : Nat) (v : Byte) :
    ∀ lo, lo ≤ a → Memory.wfFrom lo mem → Memory.wfFrom lo (Memory.write mem a v) := by
  induction mem with
  | nil =>
    intro lo hlo _
    simp only [Memory.write]
    split
    · rfl
    · next hv =>
      simp only [Memory.wfFrom, Bool.and_eq_true, decide_eq_true_eq, bne_iff_ne, ne_eq]
      exact ⟨⟨hlo, hv⟩, trivial⟩
  | cons c rest ih =>
    obtain ⟨b, x⟩ := c
    intro lo hlo h
    simp only [Memory.wfFrom, Bool.and_eq_true, decide_eq_true_eq, bne_iff_ne, ne_eq] at h
    simp only [Memory.write]
    by_cases h1 : a < b
    · simp only [h1, if_true]
      split
      · simp only [Memory.wfFrom, Bool.and_eq_true, decide_eq_true_eq, bne_iff_ne, ne_eq]
        exact h
      · next hv =>
        simp only [Memory.wfFrom, Bool.and_eq_true, decide_eq_true_eq, bne_iff_ne, ne_eq]
        exact ⟨⟨hlo, hv⟩, ⟨by omega, h.1.2⟩, h.2⟩
    · simp only [h1, if_false]
      by_cases h2 : a = b
      · subst h2
        simp only [if_true]
        split
        · exact Memory.wfFrom_mono rest (by omega) h.2
        · next hv =>
          simp only [Memory.wfFrom, Bool.and_eq_true, decide_eq_true_eq, bne_iff_ne, ne_eq]
          exact ⟨⟨hlo, hv⟩, h.2⟩
      · simp only [h2, if_false]
        simp only [Memory.wfFrom, Bool.and_eq_true, decide_eq_true_eq, bne_iff_ne, ne_eq]
        exact ⟨h.1, ih (b + 1) (by omega) h.2⟩

/-- A write keeps the canonical form. -/
theorem Memory.wf_write (mem : Memory) (a : Nat) (v : Byte) (h : Memory.wf mem) : Memory.wf (Memory.write mem a v) :=
  Memory.wfFrom_write mem a v 0 (Nat.zero_le a) h

/-- A write inside a size keeps the cells inside it. -/
theorem Memory.below_write (n : Nat) (mem : Memory) (a : Nat) (v : Byte) (ha : a < n) (h : Memory.below n mem) :
    Memory.below n (Memory.write mem a v) := by
  induction mem with
  | nil =>
    simp only [Memory.write]
    split <;> simp [Memory.below, ha]
  | cons c rest ih =>
    obtain ⟨b, x⟩ := c
    simp only [Memory.below, List.all_cons, Bool.and_eq_true, decide_eq_true_eq] at h ih
    simp only [Memory.write]
    by_cases h1 : a < b
    · simp only [h1, if_true]
      split <;> simp [Memory.below, ha, h.1, h.2]
    · simp only [h1, if_false]
      by_cases h2 : a = b
      · simp only [h2, if_true]
        split <;> simp [Memory.below, h.1, h.2]
      · simp only [h2, if_false, Memory.below, List.all_cons, Bool.and_eq_true, decide_eq_true_eq]
        exact ⟨h.1, ih h.2⟩

/-- Equal memories are equal data. -/
theorem Memory.ext (m m' : Memory) (h : Memory.wf m) (h' : Memory.wf m')
    (e : ∀ a, Memory.read m a = Memory.read m' a) : m = m' := by
  have low : ∀ (m : Memory) (lo : Nat), Memory.wfFrom lo m → ∀ k, k < lo → Memory.read m k = 0 := by
    intro m
    induction m with
    | nil => intros; rfl
    | cons c rest ih =>
      obtain ⟨b, x⟩ := c
      intro lo hw k hk
      simp only [Memory.wfFrom, Bool.and_eq_true, decide_eq_true_eq] at hw
      have : k ≠ b := by omega
      simp only [Memory.read, this, if_false]
      exact ih (b + 1) hw.2 k (by omega)
  have key : ∀ (m m' : Memory) (lo : Nat), Memory.wfFrom lo m → Memory.wfFrom lo m' →
      (∀ a, Memory.read m a = Memory.read m' a) → m = m' := by
    intro m
    induction m with
    | nil =>
      intro m' lo _ hw' he
      cases m' with
      | nil => rfl
      | cons c rest =>
        obtain ⟨b, x⟩ := c
        simp only [Memory.wfFrom, Bool.and_eq_true, decide_eq_true_eq] at hw'
        have h0 := he b
        simp only [Memory.read, if_true] at h0
        simp [← h0] at hw'
    | cons c rest ih =>
      obtain ⟨b, x⟩ := c
      intro m' lo hw hw' he
      simp only [Memory.wfFrom, Bool.and_eq_true, decide_eq_true_eq] at hw
      cases m' with
      | nil =>
        have h0 := he b
        simp only [Memory.read, if_true] at h0
        simp [h0] at hw
      | cons c' rest' =>
        obtain ⟨b', x'⟩ := c'
        simp only [Memory.wfFrom, Bool.and_eq_true, decide_eq_true_eq] at hw'
        have hb : b = b' := by
          rcases Nat.lt_trichotomy b b' with hlt | heq | hgt
          · have h0 := he b
            have hne : b ≠ b' := by omega
            simp only [Memory.read, if_true, hne, if_false] at h0
            rw [low rest' (b' + 1) hw'.2 b (by omega)] at h0
            simp [h0] at hw
          · exact heq
          · have h0 := he b'
            have hne : b' ≠ b := by omega
            simp only [Memory.read, if_true, hne, if_false] at h0
            rw [low rest (b + 1) hw.2 b' (by omega)] at h0
            simp [← h0] at hw'
        subst hb
        have hx : x = x' := by simpa [Memory.read] using he b
        subst hx
        congr 1
        refine ih rest' (b + 1) hw.2 hw'.2 fun a => ?_
        by_cases ha : a = b
        · subst ha
          rw [low rest (a + 1) hw.2 a (by omega), low rest' (a + 1) hw'.2 a (by omega)]
        · simpa [Memory.read, ha] using he a
  exact key m m' 0 h h' e

/-! ### The bus -/

@[simp] theorem Bus.writeZ_rom (b : Bus) (a : Word) (v : Byte) : (Bus.writeZ b a v).rom = b.rom := by
  unfold Bus.writeZ; split <;> rfl

@[simp] theorem Bus.writeZ_pads (b : Bus) (a : Word) (v : Byte) : (Bus.writeZ b a v).pads = b.pads := by
  unfold Bus.writeZ; split <;> rfl

@[simp] theorem Bus.writeZ_wram (b : Bus) (a : Word) (v : Byte) : (Bus.writeZ b a v).wram = b.wram := by
  unfold Bus.writeZ; split <;> rfl

@[simp] theorem Bus.writeM_rom (b : Bus) (a : BitVec 24) (v : Byte) : (Bus.writeM b a v).rom = b.rom := by
  unfold Bus.writeM
  split
  · rfl
  · split
    · exact Bus.writeZ_rom ..
    · split <;> rfl

@[simp] theorem Bus.writeM_pads (b : Bus) (a : BitVec 24) (v : Byte) : (Bus.writeM b a v).pads = b.pads := by
  unfold Bus.writeM
  split
  · rfl
  · split
    · exact Bus.writeZ_pads ..
    · split <;> rfl

theorem Bus.wf_zram {b : Bus} (h : Bus.wf b) : Memory.wf b.zram := by
  simp only [Bus.wf, Bool.and_eq_true] at h; exact h.1.1.1.1

theorem Bus.wf_wram {b : Bus} (h : Bus.wf b) : Memory.wf b.wram := by
  simp only [Bus.wf, Bool.and_eq_true] at h; exact h.1.1.2

/-- A Z80 write keeps the memories in form. -/
theorem Bus.wf_writeZ (b : Bus) (a : Word) (v : Byte) (h : Bus.wf b) : Bus.wf (Bus.writeZ b a v) := by
  unfold Bus.writeZ
  split
  · next ha =>
    simp only [Bus.wf, Bool.and_eq_true] at h ⊢
    exact ⟨⟨⟨⟨Memory.wf_write _ _ _ h.1.1.1.1, Memory.below_write _ _ _ _ ha h.1.1.1.2⟩, h.1.1.2⟩, h.1.2⟩, h.2⟩
  · exact h

/-- A 68000 write keeps the memories in form. -/
theorem Bus.wf_writeM (b : Bus) (a : BitVec 24) (v : Byte) (h : Bus.wf b) : Bus.wf (Bus.writeM b a v) := by
  unfold Bus.writeM
  split
  · exact h
  · split
    · exact Bus.wf_writeZ _ _ _ h
    · split
      · exact h
      · simp only [Bus.wf, Bool.and_eq_true] at h ⊢
        exact ⟨⟨⟨h.1.1.1, Memory.wf_write _ _ _ h.1.1.2⟩,
          Memory.below_write _ _ _ _ (Nat.mod_lt _ (by decide)) h.1.2⟩, h.2⟩

theorem Bus.wf_writeM16 (b : Bus) (a : BitVec 24) (v : Word) (h : Bus.wf b) : Bus.wf (writeM16 b a v) :=
  Bus.wf_writeM _ _ _ (Bus.wf_writeM _ _ _ h)

/-- A write of any size keeps the memories in form. -/
theorem Bus.wf_writeMem (b : Bus) (addr : Long) (sz : Size) (v : Long) (h : Bus.wf b) : Bus.wf (writeMem b addr sz v) := by
  cases sz
  · exact Bus.wf_writeM _ _ _ h
  · exact Bus.wf_writeM16 _ _ _ h
  · exact Bus.wf_writeM16 _ _ _ (Bus.wf_writeM16 _ _ _ h)

/-- The Z80 space, read after a write: RAM alone takes the byte (R158). -/
theorem Bus.readZ_writeZ (b : Bus) (a k : Word) (v : Byte) (h : Memory.wf b.zram) :
    Bus.readZ (Bus.writeZ b a v) k = if k = a ∧ a.toNat < 0x2000 then v else Bus.readZ b k := by
  unfold Bus.writeZ
  split
  · next ha =>
    simp only [Bus.readZ, Memory.read_write _ _ _ _ h, ha, and_true]
    by_cases hk : k = a
    · simp [hk, ha]
    · have : k.toNat ≠ a.toNat := fun e => hk (BitVec.eq_of_toNat_eq e)
      simp [hk, this]
  · next ha => simp [ha]

/-- The bus address that a Z80 address has through the bridge (R157). -/
theorem bridge_toNat (a : BitVec 24) : (a.extractLsb' 0 16).toNat = a.toNat % 0x10000 := by
  simp [BitVec.extractLsb']

/-- Whether a 68000 bus address is backed by RAM (R153, R157). -/
def ramAt (a : BitVec 24) : Bool := (0xA00000 ≤ a.toNat && a.toNat < 0xA02000) || 0xFF0000 ≤ a.toNat

/-- The 68000 space, read after a write: RAM alone takes the byte, and no other address changes (R153, R155). -/
theorem Bus.readM_writeM (b : Bus) (a k : BitVec 24) (v : Byte) (h : Bus.wf b) :
    Bus.readM (Bus.writeM b a v) k = if k = a ∧ ramAt a then v else Bus.readM b k := by
  have hz := Bus.wf_zram h
  have hw := Bus.wf_wram h
  have hk24 := k.isLt
  have ha24 := a.isLt
  have hne : k ≠ a → k.toNat ≠ a.toNat := fun hn e => hn (BitVec.eq_of_toNat_eq e)
  unfold Bus.writeM
  by_cases h1 : a.toNat < 0xA00000
  · have : ramAt a = false := by simp [ramAt]; omega
    simp [h1, this]
  · simp only [h1, if_false]
    by_cases h2 : a.toNat < 0xA10000
    · simp only [h2, if_true]
      have hz' := Bus.readZ_writeZ b (a.extractLsb' 0 16) (k.extractLsb' 0 16) v hz
      unfold Bus.readM Bus.readRom
      simp only [Bus.writeZ_rom, Bus.writeZ_pads, Bus.writeZ_wram, hz', bridge_toNat]
      have hr : ramAt a = decide (a.toNat % 0x10000 < 0x2000) := by
        simp [ramAt]; rw [Bool.eq_iff_iff]; simp; omega
      have hk' : (k.extractLsb' 0 16 = a.extractLsb' 0 16) ↔ k.toNat % 0x10000 = a.toNat % 0x10000 := by
        constructor
        · intro e
          have e' := congrArg BitVec.toNat e
          rwa [bridge_toNat, bridge_toNat] at e'
        · intro e
          apply BitVec.eq_of_toNat_eq
          rw [bridge_toNat, bridge_toNat, e]
      rw [hr]
      by_cases hka : k = a
      · subst hka
        simp [show ¬ k.toNat < 0x400000 by omega, h1, h2]
      · have := hne hka
        simp only [hka, false_and, if_false]
        split
        · rfl
        · split
          · rfl
          · split
            · rw [if_neg]
              rintro ⟨e, _⟩
              rw [hk'] at e
              omega
            · rfl
    · simp only [h2, if_false]
      by_cases h3 : a.toNat < 0xFF0000
      · have : ramAt a = false := by simp [ramAt]; omega
        simp [h3, this]
      · have hr : ramAt a = true := by simp [ramAt]; omega
        simp only [h3, if_false, hr, and_true]
        unfold Bus.readM Bus.readRom Bus.readZ
        simp only [Memory.read_write _ _ _ _ hw]
        by_cases hka : k = a
        · subst hka
          simp [show ¬ k.toNat < 0x400000 by omega, h1, h2, h3]
        · have := hne hka
          simp only [hka, if_false]
          split
          · rfl
          · split
            · rfl
            · split
              · rfl
              · split
                · rfl
                · rw [if_neg (by omega)]

end Sys2Proof.Machine
end

