-- ==== Sys2Proof/Laws/Operands.lean ====
section
/-! SUPPORT. What the shared operations over 68000 operands, the stack and memory can do: each answers, or raises
`misalignedAccess`, according to alignment alone (20_memory.md R163; 45 R901 to R903; 47 R1101; 60 R1250, R1260). -/

namespace Sys2Proof.Machine

/-! ### Memory accesses -/

theorem misaligned_eq (a : Long) (sz : Size) : misaligned a sz = !((Loc.mem a).reachable sz) := by
  simp only [misaligned, Loc.reachable]
  cases sz <;> cases a.getLsbD 0 <;> rfl

theorem memRead_ok (s : State) (a : Long) (sz : Size) (h : (Loc.mem a).reachable sz) :
    memRead s a sz = .ok ((Loc.mem a).value s sz) := by
  simp only [memRead, misaligned_eq, h]
  cases sz <;> simp [Loc.value, readM8, readM16, readM32, busAddr, BitVec.add_assoc]

theorem memRead_error (s : State) (a : Long) (sz : Size) (h : (Loc.mem a).reachable sz = false) :
    memRead s a sz = .error (.misalignedAccess (busAddr a)) := by
  simp [memRead, misaligned_eq, h]

/-- A read that answers is of a reachable location. -/
theorem memRead_eq_ok {s : State} {a : Long} {sz : Size} {v : Long} (h : memRead s a sz = .ok v) :
    (Loc.mem a).reachable sz ∧ v = (Loc.mem a).value s sz := by
  cases hr : (Loc.mem a).reachable sz
  · rw [memRead_error s a sz hr] at h; cases h
  · rw [memRead_ok s a sz hr] at h; cases h; exact ⟨rfl, rfl⟩

theorem memWrite_ok (s : State) (a : Long) (sz : Size) (v : Long) (h : (Loc.mem a).reachable sz) :
    memWrite s a sz v = .ok (s.setBus (writeMem s.bus a sz v)) := by
  simp [memWrite, misaligned_eq, h]

theorem memWrite_error (s : State) (a : Long) (sz : Size) (v : Long) (h : (Loc.mem a).reachable sz = false) :
    memWrite s a sz v = .error (.misalignedAccess (busAddr a)) := by
  simp [memWrite, misaligned_eq, h]

theorem memWrite_eq_ok {s t : State} {a : Long} {sz : Size} {v : Long} (h : memWrite s a sz v = .ok t) :
    (Loc.mem a).reachable sz ∧ t = s.setBus (writeMem s.bus a sz v) := by
  cases hr : (Loc.mem a).reachable sz
  · rw [memWrite_error s a sz v hr] at h; cases h
  · rw [memWrite_ok s a sz v hr] at h; cases h; exact ⟨rfl, rfl⟩

/-! ### Locations -/

theorem readLoc_ok (s : State) (sz : Size) (l : Loc) (h : l.reachable sz) : readLoc s sz l = .ok (l.value s sz) := by
  cases l with
  | mem a => exact memRead_ok s a sz h
  | _ => rfl

theorem readLoc_eq_ok {s : State} {sz : Size} {l : Loc} {v : Long} (h : readLoc s sz l = .ok v) :
    l.reachable sz ∧ v = l.value s sz := by
  cases l with
  | mem a => exact memRead_eq_ok h
  | _ => cases h; exact ⟨rfl, rfl⟩

theorem writeLoc_ok (s : State) (sz : Size) (l : Loc) (v : Long) (h : l.reachable sz) :
    writeLoc s sz l v = .ok (l.put s sz v) := by
  cases l with
  | mem a => exact memWrite_ok s a sz v h
  | _ => rfl

theorem writeLoc_eq_ok {s t : State} {sz : Size} {l : Loc} {v : Long} (h : writeLoc s sz l v = .ok t) :
    l.reachable sz ∧ t = l.put s sz v := by
  cases l with
  | mem a => exact memWrite_eq_ok h
  | _ => cases h; exact ⟨rfl, rfl⟩

/-! ### Operands -/

theorem loadEa_ok (s : State) (sz : Size) (pw : Long) (e : Ea) (h : (resolve s sz pw e).1.reachable sz) :
    loadEa s sz pw e = .ok ((resolve s sz pw e).1.value (resolve s sz pw e).2 sz, (resolve s sz pw e).2) := by
  simp [loadEa, readLoc_ok _ _ _ h, bind, Except.bind, pure, Except.pure]

/-- A source at an odd word or long address raises, after its side effect and before any read. -/
theorem loadEa_error (s : State) (sz : Size) (pw : Long) (e : Ea) (a : Long) (h : (resolve s sz pw e).1 = .mem a)
    (hr : (Loc.mem a).reachable sz = false) : loadEa s sz pw e = .error (.misalignedAccess (busAddr a)) := by
  simp [loadEa, h, readLoc, memRead_error _ _ _ hr, bind, Except.bind]

theorem loadEa_eq_ok {s t : State} {sz : Size} {pw : Long} {e : Ea} {v : Long} (h : loadEa s sz pw e = .ok (v, t)) :
    (resolve s sz pw e).1.reachable sz ∧ v = (resolve s sz pw e).1.value t sz ∧ t = (resolve s sz pw e).2 := by
  cases hr : (resolve s sz pw e).1.reachable sz
  · simp only [loadEa] at h
    cases hl : (resolve s sz pw e).1 with
    | mem a =>
      rw [hl] at hr h
      simp [readLoc, memRead_error _ a sz hr, bind, Except.bind] at h
    | _ => rw [hl] at hr; simp [Loc.reachable] at hr
  · rw [loadEa_ok s sz pw e hr] at h
    cases h
    exact ⟨rfl, rfl, rfl⟩

theorem storeEa_ok (s : State) (sz : Size) (pw : Long) (e : Ea) (v : Long) (h : (resolve s sz pw e).1.reachable sz) :
    storeEa s sz pw e v = .ok ((resolve s sz pw e).1.put (resolve s sz pw e).2 sz v) :=
  writeLoc_ok _ _ _ _ h

theorem storeEa_error (s : State) (sz : Size) (pw : Long) (e : Ea) (v a : Long) (h : (resolve s sz pw e).1 = .mem a)
    (hr : (Loc.mem a).reachable sz = false) : storeEa s sz pw e v = .error (.misalignedAccess (busAddr a)) := by
  simp [storeEa, h, writeLoc, memWrite_error _ _ _ _ hr]

theorem storeEa_eq_ok {s t : State} {sz : Size} {pw : Long} {e : Ea} {v : Long} (h : storeEa s sz pw e v = .ok t) :
    (resolve s sz pw e).1.reachable sz ∧ t = (resolve s sz pw e).1.put (resolve s sz pw e).2 sz v :=
  writeLoc_eq_ok h

theorem modifyEa_ok (s : State) (sz : Size) (pw : Long) (e : Ea) (f : Word → Long → Long × Word)
    (h : (resolve s sz pw e).1.reachable sz) :
    modifyEa s sz pw e f =
      (let l := (resolve s sz pw e).1
       let s' := (resolve s sz pw e).2
       let r := f s'.m.sr (l.value s' sz)
       .ok (setSr (l.put s' sz r.1) r.2)) := by
  simp [modifyEa, readLoc_ok _ _ _ h, writeLoc_ok _ _ _ _ h, bind, Except.bind, pure, Except.pure]

theorem modifyEa_error (s : State) (sz : Size) (pw : Long) (e : Ea) (f : Word → Long → Long × Word) (a : Long)
    (h : (resolve s sz pw e).1 = .mem a) (hr : (Loc.mem a).reachable sz = false) :
    modifyEa s sz pw e f = .error (.misalignedAccess (busAddr a)) := by
  simp [modifyEa, h, readLoc, memRead_error _ _ _ hr, bind, Except.bind]

theorem modifyEa_eq_ok {s t : State} {sz : Size} {pw : Long} {e : Ea} {f : Word → Long → Long × Word}
    (h : modifyEa s sz pw e f = .ok t) : (resolve s sz pw e).1.reachable sz := by
  cases hr : (resolve s sz pw e).1.reachable sz
  · simp only [modifyEa] at h
    cases hl : (resolve s sz pw e).1 with
    | mem a =>
      rw [hl] at hr h
      simp [readLoc, memRead_error _ a sz hr, bind, Except.bind] at h
    | _ => rw [hl] at hr; simp [Loc.reachable] at hr
  · rfl

/-! ### What resolving and writing an operand leave alone -/

@[simp] theorem resolve_bus (s : State) (sz : Size) (pw : Long) (e : Ea) : (resolve s sz pw e).2.bus = s.bus := by
  cases e <;> rfl

@[simp] theorem resolve_z (s : State) (sz : Size) (pw : Long) (e : Ea) : (resolve s sz pw e).2.z = s.z := by
  cases e <;> rfl

@[simp] theorem resolve_host (s : State) (sz : Size) (pw : Long) (e : Ea) : (resolve s sz pw e).2.host = s.host := by
  cases e <;> rfl

@[simp] theorem resolve_events (s : State) (sz : Size) (pw : Long) (e : Ea) :
    (resolve s sz pw e).2.events = s.events := by
  cases e <;> rfl

@[simp] theorem resolve_draws (s : State) (sz : Size) (pw : Long) (e : Ea) : (resolve s sz pw e).2.draws = s.draws := by
  cases e <;> rfl

@[simp] theorem resolve_sr (s : State) (sz : Size) (pw : Long) (e : Ea) : (resolve s sz pw e).2.m.sr = s.m.sr := by
  cases e <;> rfl

@[simp] theorem resolve_pc0 (s : State) (sz : Size) (pw : Long) (e : Ea) : (resolve s sz pw e).2.m.pc0 = s.m.pc0 := by
  cases e <;> rfl

@[simp] theorem resolve_pc (s : State) (sz : Size) (pw : Long) (e : Ea) : (resolve s sz pw e).2.m.pc = s.m.pc := by
  cases e <;> rfl

@[simp] theorem resolve_d (s : State) (sz : Size) (pw : Long) (e : Ea) : (resolve s sz pw e).2.m.d = s.m.d := by
  cases e <;> rfl

@[simp] theorem Loc.put_sr (l : Loc) (s : State) (sz : Size) (v : Long) : (l.put s sz v).m.sr = s.m.sr := by
  cases l <;> rfl

@[simp] theorem Loc.put_z (l : Loc) (s : State) (sz : Size) (v : Long) : (l.put s sz v).z = s.z := by
  cases l <;> rfl

@[simp] theorem Loc.put_host (l : Loc) (s : State) (sz : Size) (v : Long) : (l.put s sz v).host = s.host := by
  cases l <;> rfl

@[simp] theorem Loc.put_draws (l : Loc) (s : State) (sz : Size) (v : Long) : (l.put s sz v).draws = s.draws := by
  cases l <;> rfl

theorem Loc.put_wf (l : Loc) (s : State) (sz : Size) (v : Long) (h : Bus.wf s.bus) : Bus.wf (l.put s sz v).bus := by
  cases l with
  | mem a => exact Bus.wf_writeMem _ _ _ _ h
  | _ => exact h

/-! ### The stack and the exceptions -/

theorem push_ok (s : State) (sz : Size) (v : Long)
    (h : (Loc.mem (getAn s 7 - BitVec.ofNat 32 sz.bytes)).reachable sz) :
    push s sz v = .ok ((setAn s 7 (getAn s 7 - BitVec.ofNat 32 sz.bytes)).setBus
      (writeMem s.bus (getAn s 7 - BitVec.ofNat 32 sz.bytes) sz v)) := by
  simp only [push, getAn_setAn_same]
  exact memWrite_ok _ _ _ _ h

theorem push_error (s : State) (sz : Size) (v : Long)
    (h : (Loc.mem (getAn s 7 - BitVec.ofNat 32 sz.bytes)).reachable sz = false) :
    push s sz v = .error (.misalignedAccess (busAddr (getAn s 7 - BitVec.ofNat 32 sz.bytes))) := by
  simp only [push, getAn_setAn_same]
  exact memWrite_error _ _ _ _ h

theorem push_eq_ok {s t : State} {sz : Size} {v : Long} (h : push s sz v = .ok t) :
    (Loc.mem (getAn s 7 - BitVec.ofNat 32 sz.bytes)).reachable sz ∧
      t = (setAn s 7 (getAn s 7 - BitVec.ofNat 32 sz.bytes)).setBus
        (writeMem s.bus (getAn s 7 - BitVec.ofNat 32 sz.bytes) sz v) := by
  simp only [push, getAn_setAn_same] at h
  exact memWrite_eq_ok h

theorem pop_ok (s : State) (sz : Size) (h : (Loc.mem (getAn s 7)).reachable sz) :
    pop s sz = .ok ((Loc.mem (getAn s 7)).value s sz, setAn s 7 (getAn s 7 + BitVec.ofNat 32 sz.bytes)) := by
  simp [pop, memRead_ok _ _ _ h, bind, Except.bind, pure, Except.pure]

theorem pop_error (s : State) (sz : Size) (h : (Loc.mem (getAn s 7)).reachable sz = false) :
    pop s sz = .error (.misalignedAccess (busAddr (getAn s 7))) := by
  simp [pop, memRead_error _ _ _ h, bind, Except.bind]

theorem pop_eq_ok {s t : State} {sz : Size} {v : Long} (h : pop s sz = .ok (v, t)) :
    (Loc.mem (getAn s 7)).reachable sz ∧ v = (Loc.mem (getAn s 7)).value s sz ∧
      t = setAn s 7 (getAn s 7 + BitVec.ofNat 32 sz.bytes) := by
  cases hr : (Loc.mem (getAn s 7)).reachable sz
  · simp [pop, memRead_error _ _ _ hr, bind, Except.bind] at h
  · rw [pop_ok s sz hr] at h
    cases h
    exact ⟨rfl, rfl, rfl⟩

/-- An address minus an even number has its parity. -/
theorem sub_even (a : Long) (k : Nat) (h : a.getLsbD 0 = false) : (a - BitVec.ofNat 32 (2 * k)).getLsbD 0 = false := by
  have ha : a.toNat % 2 = 0 := by
    have := h
    rw [BitVec.getLsbD, Nat.testBit_zero] at this
    simpa using this
  rw [BitVec.getLsbD, Nat.testBit_zero, BitVec.toNat_sub, BitVec.toNat_ofNat]
  simp only [decide_eq_false_iff_not]
  have := a.isLt
  omega

theorem add_even (a : Long) (k : Nat) (h : a.getLsbD 0 = false) : (a + BitVec.ofNat 32 (2 * k)).getLsbD 0 = false := by
  have ha : a.toNat % 2 = 0 := by
    have := h
    rw [BitVec.getLsbD, Nat.testBit_zero] at this
    simpa using this
  rw [BitVec.getLsbD, Nat.testBit_zero, BitVec.toNat_add, BitVec.toNat_ofNat]
  simp only [decide_eq_false_iff_not]
  have := a.isLt
  omega

/-- An address minus an even number has its parity. -/
theorem sub_odd (a : Long) (k : Nat) (h : a.getLsbD 0 = true) : (a - BitVec.ofNat 32 (2 * k)).getLsbD 0 = true := by
  cases hb : (a - BitVec.ofNat 32 (2 * k)).getLsbD 0
  · have := add_even _ k hb
    rw [BitVec.sub_add_cancel, h] at this
    cases this
  · rfl

end Sys2Proof.Machine
end

