-- ==== Sys2Proof/Laws/Exceptions.lean ====
section
/-! SUPPORT. The mode changes and taking an exception, in closed form (60_exceptions.md R1260; 10_state.md R69, R70). -/

namespace Sys2Proof.Machine

theorem getAn_seven (s : State) : getAn s 7 = s.m.a[7] := rfl

theorem setAn_seven (s : State) (v : Long) : setAn s 7 v = { s with m := { s.m with a := s.m.a.set 7 v } } := rfl

/-- Setting a bit that is set. -/
theorem or_bit13 (w : Word) (h : w.getLsbD 13) : w ||| 0x2000 = w := by
  apply BitVec.eq_of_getLsbD_eq
  intro i hi
  rw [BitVec.getLsbD_or]
  by_cases hk : i = 13
  · subst hk; simp [h]
  · have : (0x2000#16).getLsbD i = false := by
      revert hi hk
      revert i
      decide
    simp [this]

/-- Clearing a bit that is clear. -/
theorem and_bit13 (w : Word) (h : w.getLsbD 13 = false) : w &&& ~~~ 0x2000#16 = w := by
  apply BitVec.eq_of_getLsbD_eq
  intro i hi
  rw [BitVec.getLsbD_and]
  by_cases hk : i = 13
  · subst hk; rw [h]; rfl
  · have : (~~~ 0x2000#16).getLsbD i = true := by
      revert hi hk
      revert i
      decide
    rw [this, Bool.and_true]

/-- `enterSupervisorMode` in one form for both modes. -/
theorem enterSupervisorMode_eq (s : State) :
    enterSupervisorMode s = { s with m := { s.m with
      a := s.m.a.set 7 (supervisorSp s)
      otherSP := if s.m.sr.getLsbD 13 then s.m.otherSP else s.m.a[7]
      sr := s.m.sr ||| 0x2000 } } := by
  cases h : s.m.sr.getLsbD 13
  · have hs : supervisor s = false := h
    simp only [enterSupervisorMode, hs, supervisorSp, h]
    rfl
  · have hs : supervisor s = true := h
    simp only [enterSupervisorMode, hs, supervisorSp, h, if_true, or_bit13 _ h]
    simp

/-- `enterUserMode` in one form for both modes. -/
theorem enterUserMode_eq (s : State) :
    enterUserMode s = { s with m := { s.m with
      a := s.m.a.set 7 (if s.m.sr.getLsbD 13 then s.m.otherSP else s.m.a[7])
      otherSP := supervisorSp s
      sr := s.m.sr &&& ~~~ 0x2000#16 } } := by
  cases h : s.m.sr.getLsbD 13
  · have hs : supervisor s = false := h
    have hb := and_bit13 _ h
    simp only [enterUserMode, hs, supervisorSp, h, hb]
    simp
  · have hs : supervisor s = true := h
    simp only [enterUserMode, hs, supervisorSp, h]
    rfl

@[simp] theorem enterSupervisorMode_bus (s : State) : (enterSupervisorMode s).bus = s.bus := by
  rw [enterSupervisorMode_eq]

@[simp] theorem enterUserMode_bus (s : State) : (enterUserMode s).bus = s.bus := by
  rw [enterUserMode_eq]

/-- The supervisor stack after a supervisor entry. -/
theorem enterSupervisorMode_a7 (s : State) : getAn (enterSupervisorMode s) 7 = supervisorSp s := by
  rw [enterSupervisorMode_eq, getAn_seven]
  simp

/-- `writeSR` masks, and leaves the bus alone (R70). -/
theorem writeSR_sr (s : State) (v : Word) : (writeSR s v).m.sr = v &&& srMask := rfl

@[simp] theorem writeSR_bus (s : State) (v : Word) : (writeSR s v).bus = s.bus := by
  simp only [writeSR, setSr_bus]
  split
  · exact enterSupervisorMode_bus s
  · exact enterUserMode_bus s

/-- Taking an exception on an even supervisor stack through a vector at an even offset. -/
theorem takeException_ok (s : State) (off : Nat) (pc : Long) (hs : (supervisorSp s).getLsbD 0 = false)
    (ho : (BitVec.ofNat 32 off).getLsbD 0 = false) : takeException s off pc = .ok (afterException s off pc) := by
  have h4 : ((supervisorSp s) - 4).getLsbD 0 = false := sub_even _ 2 hs
  have h6 : ((supervisorSp s) - 6).getLsbD 0 = false := sub_even _ 3 hs
  have e42 : (supervisorSp s) - 4#32 - 2#32 = supervisorSp s - 6#32 := by
    rw [BitVec.sub_sub]; rfl
  have hsr7 : ∀ w : Word, w &&& ~~~ 0x8000#16 = w &&& 0x7FFF := fun w => by congr 1
  simp only [takeException, vectorRead]
  have ha7 : getAn (setSr (enterSupervisorMode s) ((enterSupervisorMode s).m.sr &&& ~~~ 0x8000#16)) 7 = supervisorSp s := by
    rw [getAn_setSr]; exact enterSupervisorMode_a7 s
  rw [push_ok _ .l pc (by rw [ha7]; simpa [Loc.reachable, Size.bytes] using h4)]
  simp only [bind, Except.bind, ha7]
  rw [push_ok _ .w _ (by
    rw [getAn_seven, setAn_seven]
    simpa [Loc.reachable, Size.bytes, e42] using h6)]
  simp only []
  rw [memRead_ok _ _ .l (by simpa [Loc.reachable] using ho)]
  simp only [pure, Except.pure, afterException]
  congr 1
  rw [enterSupervisorMode_eq]
  simp only [State.setM, State.setBus, setAn_seven, setSr, setPc, getAn_seven, Size.bytes, hsr7]
  simp [e42, Vector.set_set, Loc.value]

/-- Taking an exception on an odd supervisor stack: the first push raises, whatever the vector (60 R1260). -/
theorem takeException_error (s : State) (off : Nat) (pc : Long) (hs : (supervisorSp s).getLsbD 0 = true) :
    takeException s off pc = .error (.misalignedAccess (busAddr (supervisorSp s - 4))) := by
  have h4 : ((supervisorSp s) - 4).getLsbD 0 = true := sub_odd _ 2 hs
  have ha7 : getAn (setSr (enterSupervisorMode s) ((enterSupervisorMode s).m.sr &&& ~~~ 0x8000#16)) 7 = supervisorSp s := by
    rw [getAn_setSr]; exact enterSupervisorMode_a7 s
  simp only [takeException]
  rw [push_error _ .l pc (by rw [ha7]; simpa [Loc.reachable, Size.bytes] using h4), ha7]
  rfl

/-- An exception that is taken had an even supervisor stack pointer and an even vector offset. -/
theorem takeException_eq_ok {s t : State} {off : Nat} {pc : Long} (h : takeException s off pc = .ok t) :
    (supervisorSp s).getLsbD 0 = false ∧ (BitVec.ofNat 32 off).getLsbD 0 = false := by
  simp only [takeException, bind, Except.bind] at h
  split at h
  · cases h
  · next s1 h1 =>
    obtain ⟨hr, rfl⟩ := push_eq_ok h1
    have hz : (supervisorSp s).getLsbD 0 = false := by
      have e : getAn (setSr (enterSupervisorMode s) ((enterSupervisorMode s).m.sr &&& ~~~ 0x8000#16)) 7 = supervisorSp s := by
        rw [getAn_setSr]; exact enterSupervisorMode_a7 s
      rw [e] at hr
      have h4 : (supervisorSp s - 4#32).getLsbD 0 = false := by simpa [Loc.reachable, Size.bytes] using hr
      have := add_even _ 2 h4
      simpa [BitVec.sub_add_cancel] using this
    refine ⟨hz, ?_⟩
    split at h
    · cases h
    · simp only [vectorRead] at h
      split at h
      · cases h
      · next hv =>
        have := (memRead_eq_ok hv).1
        simpa [Loc.reachable] using this

end Sys2Proof.Machine
end

