-- ==== Sys2Proof/Laws/Fatal.lean ====
section
/-! SUPPORT. What a fatal condition leaves: the fields of the two faulted states, and what `unspecifiedBytes` can do to the bus
(60_exceptions.md R1202; logs 7, 21). -/

namespace Sys2Proof.Machine

/-! ### Writes away from an address -/

/-- A write leaves every other address as it was, whatever the form of the list. -/
theorem Memory.read_write_ne (mem : Memory) {a k : Nat} (v : Byte) (h : k ≠ a) :
    Memory.read (Memory.write mem a v) k = Memory.read mem k := by
  induction mem with
  | nil =>
    simp only [Memory.write]
    split <;> simp [Memory.read, h]
  | cons c rest ih =>
    obtain ⟨b, x⟩ := c
    simp only [Memory.write]
    split
    · split
      · rfl
      · simp [Memory.read, h]
    · split
      · next hb =>
        subst hb
        split <;> simp [Memory.read, h]
      · simp only [Memory.read, ih]

theorem Bus.readZ_writeZ_ne (b : Bus) {a k : Word} (v : Byte) (h : k ≠ a) :
    Bus.readZ (Bus.writeZ b a v) k = Bus.readZ b k := by
  have hn : k.toNat ≠ a.toNat := fun e => h (BitVec.eq_of_toNat_eq e)
  unfold Bus.writeZ
  split
  · simp only [Bus.readZ, Memory.read_write_ne _ _ hn]
  · rfl

/-- A 68000 write leaves every other bus address as it was, whatever the form of the memories. -/
theorem Bus.readM_writeM_ne (b : Bus) {a k : BitVec 24} (v : Byte) (h : k ≠ a) :
    Bus.readM (Bus.writeM b a v) k = Bus.readM b k := by
  have hn : k.toNat ≠ a.toNat := fun e => h (BitVec.eq_of_toNat_eq e)
  have hk := k.isLt
  have ha := a.isLt
  unfold Bus.writeM
  split
  · rfl
  · split
    · unfold Bus.readM Bus.readRom
      simp only [Bus.writeZ_rom, Bus.writeZ_pads, Bus.writeZ_wram]
      split
      · rfl
      · split
        · rfl
        · split
          · refine Bus.readZ_writeZ_ne b v fun e => ?_
            have e' := congrArg BitVec.toNat e
            rw [bridge_toNat, bridge_toNat] at e'
            omega
          · rfl
    · split
      · rfl
      · unfold Bus.readM Bus.readRom Bus.readZ
        split
        · rfl
        · split
          · rfl
          · split
            · rfl
            · split
              · rfl
              · exact Memory.read_write_ne _ _ (by omega)

/-! ### The bytes a fatal condition leaves unspecified -/

@[simp] theorem unspecifiedBytes_rom (b : Bus) (draw : Nat) (l : List (BitVec 24)) :
    (unspecifiedBytes b draw l).rom = b.rom := by
  induction l generalizing b with
  | nil => rfl
  | cons a rest ih => simp [unspecifiedBytes, ih]

@[simp] theorem unspecifiedBytes_pads (b : Bus) (draw : Nat) (l : List (BitVec 24)) :
    (unspecifiedBytes b draw l).pads = b.pads := by
  induction l generalizing b with
  | nil => rfl
  | cons a rest ih => simp [unspecifiedBytes, ih]

/-- The memories keep their form. -/
theorem Bus.wf_unspecifiedBytes (b : Bus) (draw : Nat) (l : List (BitVec 24)) (h : Bus.wf b) :
    Bus.wf (unspecifiedBytes b draw l) := by
  induction l generalizing b with
  | nil => exact h
  | cons a rest ih => exact ih _ (Bus.wf_writeM _ _ _ h)

/-- Every other byte is as it was. -/
theorem readM_unspecifiedBytes (b : Bus) (draw : Nat) (l : List (BitVec 24)) (k : BitVec 24) (h : k ∉ l) :
    Bus.readM (unspecifiedBytes b draw l) k = Bus.readM b k := by
  induction l generalizing b with
  | nil => rfl
  | cons a rest ih =>
    rw [List.mem_cons, not_or] at h
    rw [unspecifiedBytes, ih _ h.2, Bus.readM_writeM_ne _ _ h.1]

/-! ### The faulted states, field by field -/

theorem srLegal_masked (w : Word) : srLegal (w &&& srMask) = true := by
  simp [srLegal, BitVec.and_assoc]

@[simp] theorem unspecifiedZ80_faulted (draw : Nat) (f : Fault) : (unspecifiedZ80 draw f).faulted = some f := rfl

@[simp] theorem unspecifiedM68k_faulted (draw : Nat) (f : Fault) : (unspecifiedM68k draw f).faulted = some f := rfl

/-- The bits of SR that do not exist stay 0 (10_state.md R72). -/
theorem srLegal_unspecifiedM68k (draw : Nat) (f : Fault) : srLegal (unspecifiedM68k draw f).sr = true := srLegal_masked _

@[simp] theorem faultZ80_z (s : State) (f : Fault) : (faultZ80 s f).z = unspecifiedZ80 s.draws f := rfl
@[simp] theorem faultZ80_m (s : State) (f : Fault) : (faultZ80 s f).m = s.m := rfl
@[simp] theorem faultZ80_bus (s : State) (f : Fault) : (faultZ80 s f).bus = s.bus := rfl
@[simp] theorem faultZ80_host (s : State) (f : Fault) : (faultZ80 s f).host = s.host := rfl
@[simp] theorem faultZ80_events (s : State) (f : Fault) : (faultZ80 s f).events = s.events := rfl
@[simp] theorem faultZ80_cycles (s : State) (f : Fault) : (faultZ80 s f).cycles = s.cycles := rfl
@[simp] theorem faultZ80_fatal (s : State) (f : Fault) : (faultZ80 s f).fatal = some f := rfl
@[simp] theorem faultZ80_draws (s : State) (f : Fault) : (faultZ80 s f).draws = s.draws + 1 := rfl

@[simp] theorem faultM68k_z (s : State) (f : Fault) (l : List (BitVec 24)) : (faultM68k s f l).z = s.z := rfl
@[simp] theorem faultM68k_m (s : State) (f : Fault) (l : List (BitVec 24)) : (faultM68k s f l).m = unspecifiedM68k s.draws f := rfl
@[simp] theorem faultM68k_bus (s : State) (f : Fault) (l : List (BitVec 24)) : (faultM68k s f l).bus = unspecifiedBytes s.bus s.draws l := rfl
@[simp] theorem faultM68k_host (s : State) (f : Fault) (l : List (BitVec 24)) : (faultM68k s f l).host = s.host := rfl
@[simp] theorem faultM68k_events (s : State) (f : Fault) (l : List (BitVec 24)) : (faultM68k s f l).events = s.events := rfl
@[simp] theorem faultM68k_cycles (s : State) (f : Fault) (l : List (BitVec 24)) : (faultM68k s f l).cycles = s.cycles := rfl
@[simp] theorem faultM68k_fatal (s : State) (f : Fault) (l : List (BitVec 24)) : (faultM68k s f l).fatal = some f := rfl
@[simp] theorem faultM68k_draws (s : State) (f : Fault) (l : List (BitVec 24)) : (faultM68k s f l).draws = s.draws + 1 := rfl

/-- What was left of the CPU before the condition does not matter. -/
theorem faultZ80_setZ (s : State) (z : Z80) (f : Fault) : faultZ80 (s.setZ z) f = faultZ80 s f := rfl

theorem faultM68k_setM (s : State) (m : M68k) (f : Fault) (l : List (BitVec 24)) : faultM68k (s.setM m) f l = faultM68k s f l := rfl

end Sys2Proof.Machine
end

