-- ==== Sys2Proof/Laws/Flags.lean ====
section
/-! SUPPORT. The bits of the flag registers that the flag computations write (10_state.md R60, R72). -/

namespace Sys2Proof.Machine

/-! ### F of the Z80 -/

@[simp] theorem flagsZ_bit7 (s z y h x pv n c : Bool) : (flagsZ s z y h x pv n c).getLsbD 7 = s := by
  revert s z y h x pv n c; decide

@[simp] theorem flagsZ_bit6 (s z y h x pv n c : Bool) : (flagsZ s z y h x pv n c).getLsbD 6 = z := by
  revert s z y h x pv n c; decide

@[simp] theorem flagsZ_bit5 (s z y h x pv n c : Bool) : (flagsZ s z y h x pv n c).getLsbD 5 = y := by
  revert s z y h x pv n c; decide

@[simp] theorem flagsZ_bit4 (s z y h x pv n c : Bool) : (flagsZ s z y h x pv n c).getLsbD 4 = h := by
  revert s z y h x pv n c; decide

@[simp] theorem flagsZ_bit3 (s z y h x pv n c : Bool) : (flagsZ s z y h x pv n c).getLsbD 3 = x := by
  revert s z y h x pv n c; decide

@[simp] theorem flagsZ_bit2 (s z y h x pv n c : Bool) : (flagsZ s z y h x pv n c).getLsbD 2 = pv := by
  revert s z y h x pv n c; decide

@[simp] theorem flagsZ_bit1 (s z y h x pv n c : Bool) : (flagsZ s z y h x pv n c).getLsbD 1 = n := by
  revert s z y h x pv n c; decide

@[simp] theorem flagsZ_bit0 (s z y h x pv n c : Bool) : (flagsZ s z y h x pv n c).getLsbD 0 = c := by
  revert s z y h x pv n c; decide

/-! ### SR of the 68000 -/

theorem bit16_getLsbD (k i : Nat) (b : Bool) (hk : k < 16) : (bit16 k b).getLsbD i = (b && decide (i = k)) := by
  cases b
  · simp [bit16]
  · simp only [bit16, Bool.toNat_true, BitVec.getLsbD_ofNat, Bool.true_and, Nat.one_shiftLeft, Nat.testBit_two_pow]
    by_cases h : k = i
    · subst h; simp [hk]
    · simp [h, Ne.symm h]

theorem mask_high (n : Nat) (sr m : Word) (k : Nat) (hm : m.getLsbD k = decide (n ≤ k ∧ k < 16)) :
    (sr &&& m).getLsbD k = (sr.getLsbD k && decide (n ≤ k)) := by
  rw [BitVec.getLsbD_and, hm]
  by_cases h : k < 16
  · simp [h]
  · simp [BitVec.getLsbD_of_ge sr k (by omega)]

theorem fff0_bit (k : Nat) : (0xFFF0 : Word).getLsbD k = decide (4 ≤ k ∧ k < 16) := by
  by_cases h : k < 16
  · revert h; revert k; decide
  · rw [BitVec.getLsbD_of_ge (0xFFF0 : Word) k (by omega)]
    simp [h]

theorem ffe0_bit (k : Nat) : (0xFFE0 : Word).getLsbD k = decide (5 ≤ k ∧ k < 16) := by
  by_cases h : k < 16
  · revert h; revert k; decide
  · rw [BitVec.getLsbD_of_ge (0xFFE0 : Word) k (by omega)]
    simp [h]

theorem withNzvc_getLsbD (sr : Word) (n z v c : Bool) (k : Nat) :
    (withNzvc sr n z v c).getLsbD k =
      if k = 0 then c else if k = 1 then v else if k = 2 then z else if k = 3 then n else sr.getLsbD k := by
  simp only [withNzvc, BitVec.getLsbD_or, bit16_getLsbD _ _ _ (show 3 < 16 by decide),
    bit16_getLsbD _ _ _ (show 2 < 16 by decide), bit16_getLsbD _ _ _ (show 1 < 16 by decide),
    bit16_getLsbD _ _ _ (show 0 < 16 by decide)]
  rw [mask_high 4 sr _ k (fff0_bit k)]
  rcases k with _ | _ | _ | _ | k <;> simp

theorem withXnzvc_getLsbD (sr : Word) (x n z v c : Bool) (k : Nat) :
    (withXnzvc sr x n z v c).getLsbD k =
      if k = 0 then c else if k = 1 then v else if k = 2 then z else if k = 3 then n else if k = 4 then x
      else sr.getLsbD k := by
  simp only [withXnzvc, BitVec.getLsbD_or, bit16_getLsbD _ _ _ (show 4 < 16 by decide),
    bit16_getLsbD _ _ _ (show 3 < 16 by decide), bit16_getLsbD _ _ _ (show 2 < 16 by decide),
    bit16_getLsbD _ _ _ (show 1 < 16 by decide), bit16_getLsbD _ _ _ (show 0 < 16 by decide)]
  rw [mask_high 5 sr _ k (ffe0_bit k)]
  rcases k with _ | _ | _ | _ | _ | k <;> simp

theorem withBit16_getLsbD (w : Word) (j : Nat) (b : Bool) (k : Nat) (hj : j < 16) :
    (withBit16 w j b).getLsbD k = if k = j then b else w.getLsbD k := by
  simp only [withBit16, BitVec.getLsbD_or, BitVec.getLsbD_and, BitVec.getLsbD_not, bit16_getLsbD _ _ _ hj]
  by_cases h : k = j
  · subst h; simp
  · by_cases hk : k < 16
    · simp [h, hk]
    · simp [h, BitVec.getLsbD_of_ge w k (by omega)]

end Sys2Proof.Machine
end

