-- ==== Sys2Proof/Laws/PerInstr.lean ====
section
/-! SUPPORT. The per-instruction laws over syntax: how long each instruction's encoding is (30_encoding.md R258, R260, R275).
One lemma per constructor of `Instr`. -/

namespace Sys2Proof.Laws.Coding

open Sys2Proof

/-- An encoding has a byte at least; a Z80 instruction has at most four (R260), a 68000 instruction one to five words (R275). -/
def Statement (i : Instr) : Prop :=
  1 ≤ (encode i).length ∧
    match i.cpu with
    | .z80 => (encode i).length ≤ 4
    | .m68k => (encode i).length ≤ 10 ∧ (encode i).length % 2 = 0

/-- A Z80 instruction of `k` bytes. -/
theorem of_z80 {i : Instr} (k : Nat) (hc : i.cpu = .z80) (hl : (encode i).length = k)
    (h : (Nat.ble 1 k && Nat.ble k 4) = true) : Statement i := by
  simp only [Bool.and_eq_true, Nat.ble_eq] at h
  simp only [Statement, hc, hl]
  exact h

theorem bytesOf_length (ws : List Word) : (bytesOf ws).length = 2 * ws.length := by
  induction ws with
  | nil => rfl
  | cons w ws ih => simp [bytesOf, ih]; omega

theorem words_length (sz : Size) (e : Ea) : (e.words sz).length ≤ 2 := by
  cases e <;> cases sz <;> simp [Ea.words, immWords]

theorem immWords_length (sz : Size) (v : Long) : (immWords sz v).length ≤ 2 := by
  cases sz <;> simp [immWords]

/-- A 68000 encoding of an operation word and at most four more. -/
theorem opWith_length (n : Nat) (ws : List Word) (h : ws.length ≤ 4) :
    1 ≤ (opWith n ws).length ∧ (opWith n ws).length ≤ 10 ∧ (opWith n ws).length % 2 = 0 := by
  simp only [opWith, bytesOf_length, List.length_cons]
  omega

theorem opOnly_length (n : Nat) : 1 ≤ (opOnly n).length ∧ (opOnly n).length ≤ 10 ∧ (opOnly n).length % 2 = 0 :=
  opWith_length n [] (by decide)

theorem opEa_length (n : Nat) (sz : Size) (e : Ea) :
    1 ≤ (opEa n sz e).length ∧ (opEa n sz e).length ≤ 10 ∧ (opEa n sz e).length % 2 = 0 :=
  opWith_length _ _ (by have := words_length sz e; omega)

theorem opImmEa_length (n : Nat) (sz : Size) (v : Long) (e : Ea) :
    1 ≤ (opImmEa n sz v e).length ∧ (opImmEa n sz v e).length ≤ 10 ∧ (opImmEa n sz v e).length % 2 = 0 :=
  opWith_length _ _ (by
    have := words_length sz e
    have := immWords_length sz v
    simp only [List.length_append]
    omega)

theorem opBitEa_length (n : Nat) (b : Byte) (e : Ea) :
    1 ≤ (opBitEa n b e).length ∧ (opBitEa n b e).length ≤ 10 ∧ (opBitEa n b e).length % 2 = 0 :=
  opWith_length _ _ (by have := words_length .b e; simp only [List.length_cons]; omega)

theorem maskEa_length (n : Nat) (m : Word) (sz : Size) (e : Ea) :
    1 ≤ (opWith n (m :: e.words sz)).length ∧ (opWith n (m :: e.words sz)).length ≤ 10 ∧
      (opWith n (m :: e.words sz)).length % 2 = 0 :=
  opWith_length _ _ (by have := words_length sz e; simp only [List.length_cons]; omega)

theorem opMove_length (n : Nat) (sz : Size) (s d : Ea) :
    1 ≤ (opMove n sz s d).length ∧ (opMove n sz s d).length ≤ 10 ∧ (opMove n sz s d).length % 2 = 0 :=
  opWith_length _ _ (by
    have := words_length sz s
    have := words_length sz d
    simp only [List.length_append]
    omega)

theorem opBranch_length (n : Nat) (d : BrDisp) :
    1 ≤ (opBranch n d).length ∧ (opBranch n d).length ≤ 10 ∧ (opBranch n d).length % 2 = 0 := by
  cases d with
  | short d => exact opOnly_length _
  | word d => exact opWith_length _ _ (by simp)

theorem djnz (e : Byte) : Statement (.djnz e) := of_z80 2 rfl rfl rfl
theorem jr (e : Byte) : Statement (.jr e) := of_z80 2 rfl rfl rfl
theorem jrCc (cond : JrCond) (e : Byte) : Statement (.jrCc cond e) := of_z80 2 rfl rfl rfl
theorem ldRpNn (p : Rp) (nn : Word) : Statement (.ldRpNn p nn) :=
  of_z80 3 rfl rfl rfl
theorem addHlRp (p : Rp) : Statement (.addHlRp p) := of_z80 1 rfl rfl rfl
theorem ldIndA (p : BcDe) : Statement (.ldIndA p) := of_z80 1 rfl rfl rfl
theorem ldMemHl (nn : Word) : Statement (.ldMemHl nn) :=
  of_z80 3 rfl rfl rfl
theorem ldMemA (nn : Word) : Statement (.ldMemA nn) :=
  of_z80 3 rfl rfl rfl
theorem ldAInd (p : BcDe) : Statement (.ldAInd p) := of_z80 1 rfl rfl rfl
theorem ldHlMem (nn : Word) : Statement (.ldHlMem nn) :=
  of_z80 3 rfl rfl rfl
theorem ldAMem (nn : Word) : Statement (.ldAMem nn) :=
  of_z80 3 rfl rfl rfl
theorem incRp (p : Rp) : Statement (.incRp p) := of_z80 1 rfl rfl rfl
theorem decRp (p : Rp) : Statement (.decRp p) := of_z80 1 rfl rfl rfl
theorem incR (r : Reg8) : Statement (.incR r) := of_z80 1 rfl rfl rfl
theorem decR (r : Reg8) : Statement (.decR r) := of_z80 1 rfl rfl rfl
theorem ldRN (r : Reg8) (n : Byte) : Statement (.ldRN r n) := of_z80 2 rfl rfl rfl
theorem ldHlIndN (n : Byte) : Statement (.ldHlIndN n) := of_z80 2 rfl rfl rfl
theorem ldRR (r : Reg8) (r' : Reg8) : Statement (.ldRR r r') := of_z80 1 rfl rfl rfl
theorem ldRHlInd (r : Reg8) : Statement (.ldRHlInd r) := of_z80 1 rfl rfl rfl
theorem ldHlIndR (r : Reg8) : Statement (.ldHlIndR r) := of_z80 1 rfl rfl rfl
theorem addAR (r : Reg8) : Statement (.addAR r) := of_z80 1 rfl rfl rfl
theorem addAN (n : Byte) : Statement (.addAN n) := of_z80 2 rfl rfl rfl
theorem adcAR (r : Reg8) : Statement (.adcAR r) := of_z80 1 rfl rfl rfl
theorem adcAN (n : Byte) : Statement (.adcAN n) := of_z80 2 rfl rfl rfl
theorem subR (r : Reg8) : Statement (.subR r) := of_z80 1 rfl rfl rfl
theorem subN (n : Byte) : Statement (.subN n) := of_z80 2 rfl rfl rfl
theorem sbcAR (r : Reg8) : Statement (.sbcAR r) := of_z80 1 rfl rfl rfl
theorem sbcAN (n : Byte) : Statement (.sbcAN n) := of_z80 2 rfl rfl rfl
theorem andR (r : Reg8) : Statement (.andR r) := of_z80 1 rfl rfl rfl
theorem andN (n : Byte) : Statement (.andN n) := of_z80 2 rfl rfl rfl
theorem xorR (r : Reg8) : Statement (.xorR r) := of_z80 1 rfl rfl rfl
theorem xorN (n : Byte) : Statement (.xorN n) := of_z80 2 rfl rfl rfl
theorem orR (r : Reg8) : Statement (.orR r) := of_z80 1 rfl rfl rfl
theorem orN (n : Byte) : Statement (.orN n) := of_z80 2 rfl rfl rfl
theorem cpR (r : Reg8) : Statement (.cpR r) := of_z80 1 rfl rfl rfl
theorem cpN (n : Byte) : Statement (.cpN n) := of_z80 2 rfl rfl rfl
theorem retCc (cond : Cond8) : Statement (.retCc cond) := of_z80 1 rfl rfl rfl
theorem popRp2 (p : Rp2) : Statement (.popRp2 p) := of_z80 1 rfl rfl rfl
theorem jpCcNn (cond : Cond8) (nn : Word) : Statement (.jpCcNn cond nn) :=
  of_z80 3 rfl rfl rfl
theorem jpNn (nn : Word) : Statement (.jpNn nn) := of_z80 3 rfl rfl rfl
theorem outNA (n : Byte) : Statement (.outNA n) := of_z80 2 rfl rfl rfl
theorem inAN (n : Byte) : Statement (.inAN n) := of_z80 2 rfl rfl rfl
theorem callCcNn (cond : Cond8) (nn : Word) : Statement (.callCcNn cond nn) :=
  of_z80 3 rfl rfl rfl
theorem pushRp2 (p : Rp2) : Statement (.pushRp2 p) := of_z80 1 rfl rfl rfl
theorem callNn (nn : Word) : Statement (.callNn nn) :=
  of_z80 3 rfl rfl rfl
theorem rst (y : Fin 8) : Statement (.rst y) := of_z80 1 rfl rfl rfl
theorem rlcM (z : Loc8) : Statement (.rlcM z) := of_z80 2 rfl rfl rfl
theorem rrcM (z : Loc8) : Statement (.rrcM z) := of_z80 2 rfl rfl rfl
theorem rlM (z : Loc8) : Statement (.rlM z) := of_z80 2 rfl rfl rfl
theorem rrM (z : Loc8) : Statement (.rrM z) := of_z80 2 rfl rfl rfl
theorem slaM (z : Loc8) : Statement (.slaM z) := of_z80 2 rfl rfl rfl
theorem sraM (z : Loc8) : Statement (.sraM z) := of_z80 2 rfl rfl rfl
theorem sllM (z : Loc8) : Statement (.sllM z) := of_z80 2 rfl rfl rfl
theorem srlM (z : Loc8) : Statement (.srlM z) := of_z80 2 rfl rfl rfl
theorem bitM (b : Fin 8) (z : Loc8) : Statement (.bitM b z) := of_z80 2 rfl rfl rfl
theorem resM (b : Fin 8) (z : Loc8) : Statement (.resM b z) := of_z80 2 rfl rfl rfl
theorem setM (b : Fin 8) (z : Loc8) : Statement (.setM b z) := of_z80 2 rfl rfl rfl
theorem inRC (r : Reg8) : Statement (.inRC r) := of_z80 2 rfl rfl rfl
theorem outCR (r : Reg8) : Statement (.outCR r) := of_z80 2 rfl rfl rfl
theorem sbcHlRp (p : Rp) : Statement (.sbcHlRp p) := of_z80 2 rfl rfl rfl
theorem adcHlRp (p : Rp) : Statement (.adcHlRp p) := of_z80 2 rfl rfl rfl
theorem ldMemRp (p : Rp) (nn : Word) : Statement (.ldMemRp p nn) :=
  of_z80 4 rfl rfl rfl
theorem ldRpMem (p : Rp) (nn : Word) : Statement (.ldRpMem p nn) :=
  of_z80 4 rfl rfl rfl
theorem addIxPp (p : Rpi) : Statement (.addIxPp p) := of_z80 2 rfl rfl rfl
theorem ldIxNn (nn : Word) : Statement (.ldIxNn nn) :=
  of_z80 4 rfl rfl rfl
theorem ldMemIx (nn : Word) : Statement (.ldMemIx nn) :=
  of_z80 4 rfl rfl rfl
theorem ldIxMem (nn : Word) : Statement (.ldIxMem nn) :=
  of_z80 4 rfl rfl rfl
theorem incIxd (d : Byte) : Statement (.incIxd d) := of_z80 3 rfl rfl rfl
theorem decIxd (d : Byte) : Statement (.decIxd d) := of_z80 3 rfl rfl rfl
theorem ldIxdN (d : Byte) (n : Byte) : Statement (.ldIxdN d n) := of_z80 4 rfl rfl rfl
theorem ldRIxd (r : Reg8) (d : Byte) : Statement (.ldRIxd r d) := of_z80 3 rfl rfl rfl
theorem ldIxdR (d : Byte) (r : Reg8) : Statement (.ldIxdR d r) := of_z80 3 rfl rfl rfl
theorem addAIxd (d : Byte) : Statement (.addAIxd d) := of_z80 3 rfl rfl rfl
theorem adcAIxd (d : Byte) : Statement (.adcAIxd d) := of_z80 3 rfl rfl rfl
theorem subIxd (d : Byte) : Statement (.subIxd d) := of_z80 3 rfl rfl rfl
theorem sbcAIxd (d : Byte) : Statement (.sbcAIxd d) := of_z80 3 rfl rfl rfl
theorem andIxd (d : Byte) : Statement (.andIxd d) := of_z80 3 rfl rfl rfl
theorem xorIxd (d : Byte) : Statement (.xorIxd d) := of_z80 3 rfl rfl rfl
theorem orIxd (d : Byte) : Statement (.orIxd d) := of_z80 3 rfl rfl rfl
theorem cpIxd (d : Byte) : Statement (.cpIxd d) := of_z80 3 rfl rfl rfl
theorem addIyPp (p : Rpi) : Statement (.addIyPp p) := of_z80 2 rfl rfl rfl
theorem ldIyNn (nn : Word) : Statement (.ldIyNn nn) :=
  of_z80 4 rfl rfl rfl
theorem ldMemIy (nn : Word) : Statement (.ldMemIy nn) :=
  of_z80 4 rfl rfl rfl
theorem ldIyMem (nn : Word) : Statement (.ldIyMem nn) :=
  of_z80 4 rfl rfl rfl
theorem incIyd (d : Byte) : Statement (.incIyd d) := of_z80 3 rfl rfl rfl
theorem decIyd (d : Byte) : Statement (.decIyd d) := of_z80 3 rfl rfl rfl
theorem ldIydN (d : Byte) (n : Byte) : Statement (.ldIydN d n) := of_z80 4 rfl rfl rfl
theorem ldRIyd (r : Reg8) (d : Byte) : Statement (.ldRIyd r d) := of_z80 3 rfl rfl rfl
theorem ldIydR (d : Byte) (r : Reg8) : Statement (.ldIydR d r) := of_z80 3 rfl rfl rfl
theorem addAIyd (d : Byte) : Statement (.addAIyd d) := of_z80 3 rfl rfl rfl
theorem adcAIyd (d : Byte) : Statement (.adcAIyd d) := of_z80 3 rfl rfl rfl
theorem subIyd (d : Byte) : Statement (.subIyd d) := of_z80 3 rfl rfl rfl
theorem sbcAIyd (d : Byte) : Statement (.sbcAIyd d) := of_z80 3 rfl rfl rfl
theorem andIyd (d : Byte) : Statement (.andIyd d) := of_z80 3 rfl rfl rfl
theorem xorIyd (d : Byte) : Statement (.xorIyd d) := of_z80 3 rfl rfl rfl
theorem orIyd (d : Byte) : Statement (.orIyd d) := of_z80 3 rfl rfl rfl
theorem cpIyd (d : Byte) : Statement (.cpIyd d) := of_z80 3 rfl rfl rfl
theorem rlcIxd (d : Byte) : Statement (.rlcIxd d) := of_z80 4 rfl rfl rfl
theorem rrcIxd (d : Byte) : Statement (.rrcIxd d) := of_z80 4 rfl rfl rfl
theorem rlIxd (d : Byte) : Statement (.rlIxd d) := of_z80 4 rfl rfl rfl
theorem rrIxd (d : Byte) : Statement (.rrIxd d) := of_z80 4 rfl rfl rfl
theorem slaIxd (d : Byte) : Statement (.slaIxd d) := of_z80 4 rfl rfl rfl
theorem sraIxd (d : Byte) : Statement (.sraIxd d) := of_z80 4 rfl rfl rfl
theorem sllIxd (d : Byte) : Statement (.sllIxd d) := of_z80 4 rfl rfl rfl
theorem srlIxd (d : Byte) : Statement (.srlIxd d) := of_z80 4 rfl rfl rfl
theorem bitIxd (b : Fin 8) (d : Byte) : Statement (.bitIxd b d) := of_z80 4 rfl rfl rfl
theorem resIxd (b : Fin 8) (d : Byte) : Statement (.resIxd b d) := of_z80 4 rfl rfl rfl
theorem setIxd (b : Fin 8) (d : Byte) : Statement (.setIxd b d) := of_z80 4 rfl rfl rfl
theorem rlcIyd (d : Byte) : Statement (.rlcIyd d) := of_z80 4 rfl rfl rfl
theorem rrcIyd (d : Byte) : Statement (.rrcIyd d) := of_z80 4 rfl rfl rfl
theorem rlIyd (d : Byte) : Statement (.rlIyd d) := of_z80 4 rfl rfl rfl
theorem rrIyd (d : Byte) : Statement (.rrIyd d) := of_z80 4 rfl rfl rfl
theorem slaIyd (d : Byte) : Statement (.slaIyd d) := of_z80 4 rfl rfl rfl
theorem sraIyd (d : Byte) : Statement (.sraIyd d) := of_z80 4 rfl rfl rfl
theorem sllIyd (d : Byte) : Statement (.sllIyd d) := of_z80 4 rfl rfl rfl
theorem srlIyd (d : Byte) : Statement (.srlIyd d) := of_z80 4 rfl rfl rfl
theorem bitIyd (b : Fin 8) (d : Byte) : Statement (.bitIyd b d) := of_z80 4 rfl rfl rfl
theorem resIyd (b : Fin 8) (d : Byte) : Statement (.resIyd b d) := of_z80 4 rfl rfl rfl
theorem setIyd (b : Fin 8) (d : Byte) : Statement (.setIyd b d) := of_z80 4 rfl rfl rfl
theorem oriEa (sz : Size) (imm : Long) (ea : Ea) : Statement (.oriEa sz imm ea) := opImmEa_length _ _ _ _
theorem oriCcr (imm : Byte) : Statement (.oriCcr imm) := opWith_length _ _ (by simp)
theorem oriSr (imm : Word) : Statement (.oriSr imm) := opWith_length _ _ (by simp)
theorem andiEa (sz : Size) (imm : Long) (ea : Ea) : Statement (.andiEa sz imm ea) := opImmEa_length _ _ _ _
theorem andiCcr (imm : Byte) : Statement (.andiCcr imm) := opWith_length _ _ (by simp)
theorem andiSr (imm : Word) : Statement (.andiSr imm) := opWith_length _ _ (by simp)
theorem subiEa (sz : Size) (imm : Long) (ea : Ea) : Statement (.subiEa sz imm ea) := opImmEa_length _ _ _ _
theorem addiEa (sz : Size) (imm : Long) (ea : Ea) : Statement (.addiEa sz imm ea) := opImmEa_length _ _ _ _
theorem eoriEa (sz : Size) (imm : Long) (ea : Ea) : Statement (.eoriEa sz imm ea) := opImmEa_length _ _ _ _
theorem eoriCcr (imm : Byte) : Statement (.eoriCcr imm) := opWith_length _ _ (by simp)
theorem eoriSr (imm : Word) : Statement (.eoriSr imm) := opWith_length _ _ (by simp)
theorem cmpiEa (sz : Size) (imm : Long) (ea : Ea) : Statement (.cmpiEa sz imm ea) := opImmEa_length _ _ _ _
theorem btstN (n : Byte) (ea : Ea) : Statement (.btstN n ea) := opBitEa_length _ _ _
theorem bchgN (n : Byte) (ea : Ea) : Statement (.bchgN n ea) := opBitEa_length _ _ _
theorem bclrN (n : Byte) (ea : Ea) : Statement (.bclrN n ea) := opBitEa_length _ _ _
theorem bsetN (n : Byte) (ea : Ea) : Statement (.bsetN n ea) := opBitEa_length _ _ _
theorem btstD (n : Fin 8) (ea : Ea) : Statement (.btstD n ea) := opEa_length _ _ _
theorem bchgD (n : Fin 8) (ea : Ea) : Statement (.bchgD n ea) := opEa_length _ _ _
theorem bclrD (n : Fin 8) (ea : Ea) : Statement (.bclrD n ea) := opEa_length _ _ _
theorem bsetD (n : Fin 8) (ea : Ea) : Statement (.bsetD n ea) := opEa_length _ _ _
theorem movep (o : MovepMode) (x : Fin 8) (y : Fin 8) (d : Word) : Statement (.movep o x y d) :=
  opWith_length _ _ (by simp)
theorem moveB (src : Ea) (dst : Ea) : Statement (.moveB src dst) := opMove_length _ _ _ _
theorem moveL (src : Ea) (dst : Ea) : Statement (.moveL src dst) := opMove_length _ _ _ _
theorem moveW (src : Ea) (dst : Ea) : Statement (.moveW src dst) := opMove_length _ _ _ _
theorem moveaL (src : Ea) (n : Fin 8) : Statement (.moveaL src n) := opEa_length _ _ _
theorem moveaW (src : Ea) (n : Fin 8) : Statement (.moveaW src n) := opEa_length _ _ _
theorem negx (sz : Size) (ea : Ea) : Statement (.negx sz ea) := opEa_length _ _ _
theorem moveFromSr (ea : Ea) : Statement (.moveFromSr ea) := opEa_length _ _ _
theorem clr (sz : Size) (ea : Ea) : Statement (.clr sz ea) := opEa_length _ _ _
theorem negEa (sz : Size) (ea : Ea) : Statement (.negEa sz ea) := opEa_length _ _ _
theorem moveToCcr (ea : Ea) : Statement (.moveToCcr ea) := opEa_length _ _ _
theorem notEa (sz : Size) (ea : Ea) : Statement (.notEa sz ea) := opEa_length _ _ _
theorem moveToSr (ea : Ea) : Statement (.moveToSr ea) := opEa_length _ _ _
theorem nbcd (ea : Ea) : Statement (.nbcd ea) := opEa_length _ _ _
theorem swap (n : Fin 8) : Statement (.swap n) := opOnly_length _
theorem pea (ea : Ea) : Statement (.pea ea) := opEa_length _ _ _
theorem ext (sz : Size) (n : Fin 8) : Statement (.ext sz n) := opOnly_length _
theorem movemStore (sz : Size) (mask : Word) (ea : Ea) : Statement (.movemStore sz mask ea) := maskEa_length _ _ _ _
theorem tst (sz : Size) (ea : Ea) : Statement (.tst sz ea) := opEa_length _ _ _
theorem tas (ea : Ea) : Statement (.tas ea) := opEa_length _ _ _
theorem movemLoad (sz : Size) (mask : Word) (ea : Ea) : Statement (.movemLoad sz mask ea) := maskEa_length _ _ _ _
theorem trap (v : Fin 16) : Statement (.trap v) := opOnly_length _
theorem link (n : Fin 8) (d : Word) : Statement (.link n d) := opWith_length _ _ (by simp)
theorem unlk (n : Fin 8) : Statement (.unlk n) := opOnly_length _
theorem moveAnUsp (n : Fin 8) : Statement (.moveAnUsp n) := opOnly_length _
theorem moveUspAn (n : Fin 8) : Statement (.moveUspAn n) := opOnly_length _
theorem stop (imm : Word) : Statement (.stop imm) := opWith_length _ _ (by simp)
theorem jsr (ea : Ea) : Statement (.jsr ea) := opEa_length _ _ _
theorem jmp (ea : Ea) : Statement (.jmp ea) := opEa_length _ _ _
theorem chk (ea : Ea) (n : Fin 8) : Statement (.chk ea n) := opEa_length _ _ _
theorem lea (ea : Ea) (n : Fin 8) : Statement (.lea ea n) := opEa_length _ _ _
theorem addq (q : Fin 8) (sz : Size) (ea : Ea) : Statement (.addq q sz ea) := opEa_length _ _ _
theorem subq (q : Fin 8) (sz : Size) (ea : Ea) : Statement (.subq q sz ea) := opEa_length _ _ _
theorem scc (cond : Cond16) (ea : Ea) : Statement (.scc cond ea) := opEa_length _ _ _
theorem dbcc (cond : Cond16) (n : Fin 8) (d : Word) : Statement (.dbcc cond n d) := opWith_length _ _ (by simp)
theorem bra (d : BrDisp) : Statement (.bra d) := opBranch_length _ _
theorem bsr (d : BrDisp) : Statement (.bsr d) := opBranch_length _ _
theorem bcc (cond : Cond16) (d : BrDisp) : Statement (.bcc cond d) := opBranch_length _ _
theorem moveq (v : Byte) (n : Fin 8) : Statement (.moveq v n) := opOnly_length _
theorem orEaD (sz : Size) (ea : Ea) (n : Fin 8) : Statement (.orEaD sz ea n) := opEa_length _ _ _
theorem orDEa (sz : Size) (n : Fin 8) (ea : Ea) : Statement (.orDEa sz n ea) := opEa_length _ _ _
theorem divu (ea : Ea) (n : Fin 8) : Statement (.divu ea n) := opEa_length _ _ _
theorem divs (ea : Ea) (n : Fin 8) : Statement (.divs ea n) := opEa_length _ _ _
theorem sbcd (f : XForm) (y : Fin 8) (x : Fin 8) : Statement (.sbcd f y x) := opOnly_length _
theorem subEaD (sz : Size) (ea : Ea) (n : Fin 8) : Statement (.subEaD sz ea n) := opEa_length _ _ _
theorem subDEa (sz : Size) (n : Fin 8) (ea : Ea) : Statement (.subDEa sz n ea) := opEa_length _ _ _
theorem suba (sz : Size) (ea : Ea) (n : Fin 8) : Statement (.suba sz ea n) := opEa_length _ _ _
theorem subx (sz : Size) (f : XForm) (y : Fin 8) (x : Fin 8) : Statement (.subx sz f y x) := opOnly_length _
theorem lineA (w : BitVec 12) : Statement (.lineA w) := opOnly_length _
theorem cmpEaD (sz : Size) (ea : Ea) (n : Fin 8) : Statement (.cmpEaD sz ea n) := opEa_length _ _ _
theorem cmpa (sz : Size) (ea : Ea) (n : Fin 8) : Statement (.cmpa sz ea n) := opEa_length _ _ _
theorem eorDEa (sz : Size) (n : Fin 8) (ea : Ea) : Statement (.eorDEa sz n ea) := opEa_length _ _ _
theorem cmpm (sz : Size) (y : Fin 8) (x : Fin 8) : Statement (.cmpm sz y x) := opOnly_length _
theorem andEaD (sz : Size) (ea : Ea) (n : Fin 8) : Statement (.andEaD sz ea n) := opEa_length _ _ _
theorem andDEa (sz : Size) (n : Fin 8) (ea : Ea) : Statement (.andDEa sz n ea) := opEa_length _ _ _
theorem mulu (ea : Ea) (n : Fin 8) : Statement (.mulu ea n) := opEa_length _ _ _
theorem muls (ea : Ea) (n : Fin 8) : Statement (.muls ea n) := opEa_length _ _ _
theorem abcd (f : XForm) (y : Fin 8) (x : Fin 8) : Statement (.abcd f y x) := opOnly_length _
theorem exgDD (x : Fin 8) (y : Fin 8) : Statement (.exgDD x y) := opOnly_length _
theorem exgAA (x : Fin 8) (y : Fin 8) : Statement (.exgAA x y) := opOnly_length _
theorem exgDA (x : Fin 8) (y : Fin 8) : Statement (.exgDA x y) := opOnly_length _
theorem addEaD (sz : Size) (ea : Ea) (n : Fin 8) : Statement (.addEaD sz ea n) := opEa_length _ _ _
theorem addDEa (sz : Size) (n : Fin 8) (ea : Ea) : Statement (.addDEa sz n ea) := opEa_length _ _ _
theorem adda (sz : Size) (ea : Ea) (n : Fin 8) : Statement (.adda sz ea n) := opEa_length _ _ _
theorem addx (sz : Size) (f : XForm) (y : Fin 8) (x : Fin 8) : Statement (.addx sz f y x) := opOnly_length _
theorem asrReg (sz : Size) (k : ShiftCount) (n : Fin 8) : Statement (.asrReg sz k n) := opOnly_length _
theorem aslReg (sz : Size) (k : ShiftCount) (n : Fin 8) : Statement (.aslReg sz k n) := opOnly_length _
theorem lsrReg (sz : Size) (k : ShiftCount) (n : Fin 8) : Statement (.lsrReg sz k n) := opOnly_length _
theorem lslReg (sz : Size) (k : ShiftCount) (n : Fin 8) : Statement (.lslReg sz k n) := opOnly_length _
theorem roxrReg (sz : Size) (k : ShiftCount) (n : Fin 8) : Statement (.roxrReg sz k n) := opOnly_length _
theorem roxlReg (sz : Size) (k : ShiftCount) (n : Fin 8) : Statement (.roxlReg sz k n) := opOnly_length _
theorem rorReg (sz : Size) (k : ShiftCount) (n : Fin 8) : Statement (.rorReg sz k n) := opOnly_length _
theorem rolReg (sz : Size) (k : ShiftCount) (n : Fin 8) : Statement (.rolReg sz k n) := opOnly_length _
theorem asrMem (ea : Ea) : Statement (.asrMem ea) := opEa_length _ _ _
theorem aslMem (ea : Ea) : Statement (.aslMem ea) := opEa_length _ _ _
theorem lsrMem (ea : Ea) : Statement (.lsrMem ea) := opEa_length _ _ _
theorem lslMem (ea : Ea) : Statement (.lslMem ea) := opEa_length _ _ _
theorem roxrMem (ea : Ea) : Statement (.roxrMem ea) := opEa_length _ _ _
theorem roxlMem (ea : Ea) : Statement (.roxlMem ea) := opEa_length _ _ _
theorem rorMem (ea : Ea) : Statement (.rorMem ea) := opEa_length _ _ _
theorem rolMem (ea : Ea) : Statement (.rolMem ea) := opEa_length _ _ _
theorem lineF (w : BitVec 12) : Statement (.lineF w) := opOnly_length _
theorem nopZ : Statement .nopZ := of_z80 1 rfl rfl rfl
theorem exAfAf : Statement .exAfAf := of_z80 1 rfl rfl rfl
theorem incHlInd : Statement .incHlInd := of_z80 1 rfl rfl rfl
theorem decHlInd : Statement .decHlInd := of_z80 1 rfl rfl rfl
theorem rlca : Statement .rlca := of_z80 1 rfl rfl rfl
theorem rrca : Statement .rrca := of_z80 1 rfl rfl rfl
theorem rla : Statement .rla := of_z80 1 rfl rfl rfl
theorem rra : Statement .rra := of_z80 1 rfl rfl rfl
theorem daa : Statement .daa := of_z80 1 rfl rfl rfl
theorem cpl : Statement .cpl := of_z80 1 rfl rfl rfl
theorem scf : Statement .scf := of_z80 1 rfl rfl rfl
theorem ccf : Statement .ccf := of_z80 1 rfl rfl rfl
theorem halt : Statement .halt := of_z80 1 rfl rfl rfl
theorem addAHlInd : Statement .addAHlInd := of_z80 1 rfl rfl rfl
theorem adcAHlInd : Statement .adcAHlInd := of_z80 1 rfl rfl rfl
theorem subHlInd : Statement .subHlInd := of_z80 1 rfl rfl rfl
theorem sbcAHlInd : Statement .sbcAHlInd := of_z80 1 rfl rfl rfl
theorem andHlInd : Statement .andHlInd := of_z80 1 rfl rfl rfl
theorem xorHlInd : Statement .xorHlInd := of_z80 1 rfl rfl rfl
theorem orHlInd : Statement .orHlInd := of_z80 1 rfl rfl rfl
theorem cpHlInd : Statement .cpHlInd := of_z80 1 rfl rfl rfl
theorem ret : Statement .ret := of_z80 1 rfl rfl rfl
theorem exx : Statement .exx := of_z80 1 rfl rfl rfl
theorem jpHl : Statement .jpHl := of_z80 1 rfl rfl rfl
theorem ldSpHl : Statement .ldSpHl := of_z80 1 rfl rfl rfl
theorem exSpHl : Statement .exSpHl := of_z80 1 rfl rfl rfl
theorem exDeHl : Statement .exDeHl := of_z80 1 rfl rfl rfl
theorem di : Statement .di := of_z80 1 rfl rfl rfl
theorem ei : Statement .ei := of_z80 1 rfl rfl rfl
theorem neg : Statement .neg := of_z80 2 rfl rfl rfl
theorem retn : Statement .retn := of_z80 2 rfl rfl rfl
theorem reti : Statement .reti := of_z80 2 rfl rfl rfl
theorem im0 : Statement .im0 := of_z80 2 rfl rfl rfl
theorem im1 : Statement .im1 := of_z80 2 rfl rfl rfl
theorem im2 : Statement .im2 := of_z80 2 rfl rfl rfl
theorem ldIA : Statement .ldIA := of_z80 2 rfl rfl rfl
theorem ldRA : Statement .ldRA := of_z80 2 rfl rfl rfl
theorem ldAI : Statement .ldAI := of_z80 2 rfl rfl rfl
theorem ldAR : Statement .ldAR := of_z80 2 rfl rfl rfl
theorem rrd : Statement .rrd := of_z80 2 rfl rfl rfl
theorem rld : Statement .rld := of_z80 2 rfl rfl rfl
theorem ldi : Statement .ldi := of_z80 2 rfl rfl rfl
theorem cpi : Statement .cpi := of_z80 2 rfl rfl rfl
theorem ini : Statement .ini := of_z80 2 rfl rfl rfl
theorem outi : Statement .outi := of_z80 2 rfl rfl rfl
theorem ldd : Statement .ldd := of_z80 2 rfl rfl rfl
theorem cpd : Statement .cpd := of_z80 2 rfl rfl rfl
theorem ind : Statement .ind := of_z80 2 rfl rfl rfl
theorem outd : Statement .outd := of_z80 2 rfl rfl rfl
theorem ldir : Statement .ldir := of_z80 2 rfl rfl rfl
theorem cpir : Statement .cpir := of_z80 2 rfl rfl rfl
theorem inir : Statement .inir := of_z80 2 rfl rfl rfl
theorem otir : Statement .otir := of_z80 2 rfl rfl rfl
theorem lddr : Statement .lddr := of_z80 2 rfl rfl rfl
theorem cpdr : Statement .cpdr := of_z80 2 rfl rfl rfl
theorem indr : Statement .indr := of_z80 2 rfl rfl rfl
theorem otdr : Statement .otdr := of_z80 2 rfl rfl rfl
theorem incIx : Statement .incIx := of_z80 2 rfl rfl rfl
theorem decIx : Statement .decIx := of_z80 2 rfl rfl rfl
theorem popIx : Statement .popIx := of_z80 2 rfl rfl rfl
theorem pushIx : Statement .pushIx := of_z80 2 rfl rfl rfl
theorem exSpIx : Statement .exSpIx := of_z80 2 rfl rfl rfl
theorem jpIx : Statement .jpIx := of_z80 2 rfl rfl rfl
theorem ldSpIx : Statement .ldSpIx := of_z80 2 rfl rfl rfl
theorem incIy : Statement .incIy := of_z80 2 rfl rfl rfl
theorem decIy : Statement .decIy := of_z80 2 rfl rfl rfl
theorem popIy : Statement .popIy := of_z80 2 rfl rfl rfl
theorem pushIy : Statement .pushIy := of_z80 2 rfl rfl rfl
theorem exSpIy : Statement .exSpIy := of_z80 2 rfl rfl rfl
theorem jpIy : Statement .jpIy := of_z80 2 rfl rfl rfl
theorem ldSpIy : Statement .ldSpIy := of_z80 2 rfl rfl rfl
theorem illegal : Statement .illegal := opOnly_length _
theorem reset : Statement .reset := opOnly_length _
theorem nopM : Statement .nopM := opOnly_length _
theorem rte : Statement .rte := opOnly_length _
theorem rts : Statement .rts := opOnly_length _
theorem trapv : Statement .trapv := opOnly_length _
theorem rtr : Statement .rtr := opOnly_length _

end Sys2Proof.Laws.Coding
end

