-- ==== Sys2Proof/Laws/Step.lean ====
section
/-! SUPPORT. Which case of a step a state is in, and what that case is: one lemma per case, so that no proof unfolds a step
(60_exceptions.md R1263, R1270; 00_scope.md R10). -/

namespace Sys2Proof.Machine

/-! ### The Z80 -/

theorem stepZ80_faulted {s : State} {f : Fault} (h : s.z.faulted = some f) : stepZ80 s = .next (s.raised f) := by
  simp [stepZ80, h]

theorem stepZ80_nmi {s : State} (h : s.z.faulted = none) (hn : s.z.nmiPending = true) : stepZ80 s = .next (acceptNmi s) := by
  simp [stepZ80, h, hn]

theorem stepZ80_int {s : State} (h : s.z.faulted = none) (hn : s.z.nmiPending = false) (hi : intPendingZ80 s = true) :
    stepZ80 s = .next (acceptInt s) := by
  simp [stepZ80, h, hn, hi]

theorem stepZ80_idle {s : State} (h : s.z.faulted = none) (hn : s.z.nmiPending = false) (hi : intPendingZ80 s = false)
    (hh : s.z.halted = true) : stepZ80 s = .next (idleZ80 s) := by
  simp [stepZ80, h, hn, hi, hh]

theorem stepZ80_run {s : State} (h : s.z.faulted = none) (hn : s.z.nmiPending = false) (hi : intPendingZ80 s = false)
    (hh : s.z.halted = false) : stepZ80 s = runZ80 s := by
  simp [stepZ80, h, hn, hi, hh]

/-- The fetch does not read `eiDelay`. -/
theorem fetchZ80_eiDelay (s : State) (b : Bool) : fetchZ80 (s.setZ { s.z with eiDelay := b }) = fetchZ80 s := rfl

theorem runZ80_ok {s : State} {i : Instr} {len : Nat} (h : fetchZ80 s = .ok (i, len)) :
    runZ80 s = endZ80 (advanceZ80 (s.setZ { s.z with eiDelay := false }) len)
      (exec i (advanceZ80 (s.setZ { s.z with eiDelay := false }) len)) := by
  simp only [runZ80, fetchZ80_eiDelay, h]

theorem runZ80_error {s : State} {f : Fault} (h : fetchZ80 s = .error f) : runZ80 s = .next (faultZ80 s f) := by
  simp only [runZ80, fetchZ80_eiDelay, h, faultZ80_setZ]

/-! ### The 68000 -/

theorem stepM68k_faulted {s : State} {f : Fault} (h : s.m.faulted = some f) : stepM68k s = .next (s.raised f) := by
  simp [stepM68k, h]

theorem stepM68k_accept {s : State} {level : Nat} (h : s.m.faulted = none) (hp : pendingLevel s = some level) :
    stepM68k s = .next (settle s (frameBytes s) (do return countCycles (← acceptM68k s level))) := by
  simp only [stepM68k, h, hp]

theorem stepM68k_idle {s : State} (h : s.m.faulted = none) (hp : pendingLevel s = none) (hs : s.m.stopped = true) :
    stepM68k s = .next (s.took Config.m68kIdleCycles) := by
  simp [stepM68k, h, hp, hs]

theorem stepM68k_run {s : State} (h : s.m.faulted = none) (hp : pendingLevel s = none) (hs : s.m.stopped = false) :
    stepM68k s = runM68k s := by
  simp [stepM68k, h, hp, hs]

/-- No request above the mask and no latched level 7. -/
theorem pendingLevel_none {s : State} (hi : s.host.ipl.val ≤ intMask s) (hn : s.m.nmi7Pending = false) :
    pendingLevel s = none := by
  simp [pendingLevel, hn, Nat.not_lt.mpr hi]

/-- The fetch does not read `pc0`. -/
theorem fetchM68k_latchPc0 (s : State) : fetchM68k (latchPc0 s) = fetchM68k s := rfl

theorem runM68k_ok {s : State} {i : Instr} {len : Nat} (h : fetchM68k s = .ok (i, len)) :
    runM68k s = endM68k (traceBit s && !untraced i s) (advanceM68k (latchPc0 s) len)
      (storesOf i (advanceM68k (latchPc0 s) len)) (exec i (advanceM68k (latchPc0 s) len)) := by
  have ht : untraced i (latchPc0 s) = untraced i s := by cases i <;> rfl
  simp only [runM68k, fetchM68k_latchPc0, h, ht]
  rfl

theorem runM68k_error {s : State} {f : Fault} (h : fetchM68k s = .error f) : runM68k s = .next (faultM68k s f []) := by
  simp only [runM68k, fetchM68k_latchPc0, h]
  rfl

/-- The fetch at an odd PC is fatal (30_encoding.md R274). -/
theorem fetchM68k_odd {s : State} (h : s.m.pc.getLsbD 0 = true) :
    fetchM68k s = .error (.misalignedAccess (busAddr s.m.pc)) := by
  have hm : misaligned s.m.pc .w = true := by rw [misaligned, h]; rfl
  rw [fetchM68k, hm]; rfl

theorem fetchM68k_even {s : State} (h : s.m.pc.getLsbD 0 = false) : fetchM68k s = decodedOr (decodeWords (wordsM68k s)) := by
  have hm : misaligned s.m.pc .w = false := by rw [misaligned, h]; rfl
  rw [fetchM68k, hm]; rfl

/-! ### The host's turn -/

theorem step_execute {s : State} (h : s.host.script = []) : step s = stepCpu s.host.turn s.begun := by
  simp [step, hostTurn, h, runCall]

theorem step_script {s : State} {t : HostTurn} {rest : List HostTurn} (h : s.host.script = t :: rest) :
    step s = runCall t.call (applyDrives { s with host := { s.host with script := rest } } t.drives) := by
  simp [step, hostTurn, h]

end Sys2Proof.Machine
end

