-- ==== Sys2Proof/Tests/Slice0.lean ====
section
/-! SUPPORT. Tests of single steps, of the decoder and of WellFormed. The expected results are those of
spec/95_test_vectors.md and of the rules' own examples. -/

namespace Sys2Proof.Tests

open Sys2Proof Sys2Proof.Machine

set_option maxRecDepth 4000

/-! ### Small states -/

/-- The Z80 after reset, at 0x0100. -/
def z0 : Z80 := { Z80.afterReset with pc := 0x0100 }

/-- Bytes listed one by one. -/
def writeCells (mem : Memory) (cells : List Host.Cell) : Memory :=
  match cells with
  | [] => mem
  | (a, v) :: rest => writeCells (Memory.write mem a v) rest

/-- The Z80 about to run bytes placed at its PC. -/
def zAt (z : Z80) (code : List Byte) (mem : List Host.Cell) : State :=
  { State.reset with
    z := z
    bus := { State.reset.bus with zram := writeCells (Memory.writeAll [] z.pc.toNat code) mem }
    host := { State.reset.host with turn := .z80 } }

/-- One port answer listed by the host. -/
def withPort (port : Word) (v : Byte) (s : State) : State := applyDrive s (.portIn port v)

/-- One register of the 68000 set before a test. -/
inductive Preset
  | d (n : Fin 8) (v : Long)
  | a (n : Fin 8) (v : Long)
  | sr (v : Word)
  | osp (v : Long)

/-- The state with registers set. -/
def preset (s : State) (ps : List Preset) : State :=
  match ps with
  | [] => s
  | .d n v :: rest => preset (setD s n v) rest
  | .a n v :: rest => preset (setAn s n v) rest
  | .sr v :: rest => preset (setSr s v) rest
  | .osp v :: rest => preset (s.setM { s.m with otherSP := v }) rest

/-- The vectors a test can take, each reading 0x2000 plus its own offset. -/
def vectors : Memory :=
  [(0x12, 0x20), (0x13, 0x10), (0x16, 0x20), (0x17, 0x14), (0x1A, 0x20), (0x1B, 0x18),
   (0x1E, 0x20), (0x1F, 0x1C), (0x22, 0x20), (0x23, 0x20), (0x26, 0x20), (0x27, 0x24),
   (0x2A, 0x20), (0x2B, 0x28), (0x2E, 0x20), (0x2F, 0x2C), (0x66, 0x20), (0x67, 0x64),
   (0x6E, 0x20), (0x6F, 0x6C), (0x7E, 0x20), (0x7F, 0x7C), (0x82, 0x20), (0x83, 0x80),
   (0x86, 0x20), (0x87, 0x84)]

/-- The 68000 about to run words placed at 0x1000 of the image. -/
def mAt (ps : List Preset) (code : List Word) (ram : List Host.Cell) : State :=
  preset
    { State.reset with
      m := { State.reset.m with pc := 0x1000 }
      bus := { State.reset.bus with
        rom := some ⟨0x4000, vectors ++ Memory.writeAll [] 0x1000 (bytesOf code)⟩
        wram := writeCells [] ram } } ps

/-- The long at a 68000 bus address. -/
def longAt (s : State) (a : BitVec 24) : Long := readM32 s.bus a

/-- A step goes on to a state with this property. -/
def after (o : Host.Outcome State Fault Refusal) (p : State → Bool) : Bool :=
  match o with
  | .next t => p t
  | _ => false

/-- A step returns this fatal condition and leaves a CPU faulted with it. -/
def faults (o : Host.Outcome State Fault Refusal) (f : Fault) : Bool :=
  after o fun t => t.fatal == some f && (t.z.faulted == some f || t.m.faulted == some f)

/-! ### Decoding: for every constructor a word written out from its row of spec/opcode_table.json (`match` and its fields) -/

/-- Each byte string decodes, whole, to its Z80 instruction, and is what the encoder writes. -/
def decodesZ (ws : List (List Byte × Instr)) : Bool :=
  ws.all fun p => decodeZ80 p.1 == .ok p.2 p.1.length && encode p.2 == p.1 && Instr.wf p.2

/-- Each word string decodes, whole, to its 68000 instruction, and is what the encoder writes. -/
def decodesM (ws : List (List Word × Instr)) : Bool :=
  ws.all fun p => decodeWords p.1 == .ok p.2 (2 * p.1.length) && encode p.2 == bytesOf p.1 && Instr.wf p.2

/-- 30_encoding.md: the map PRIMARY. -/
theorem test_decode_primary_1 : decodesZ [
    ([0x00], .nopZ),
    ([0x08], .exAfAf),
    ([0x10, 0x5A], .djnz 0x5A),
    ([0x18, 0x5A], .jr 0x5A),
    ([0x38, 0x5A], .jrCc .c 0x5A),
    ([0x31, 0x34, 0x12], .ldRpNn .sp 0x1234),
    ([0x39], .addHlRp .sp),
    ([0x12], .ldIndA .de),
    ([0x22, 0x34, 0x12], .ldMemHl 0x1234),
    ([0x32, 0x34, 0x12], .ldMemA 0x1234),
    ([0x1A], .ldAInd .de),
    ([0x2A, 0x34, 0x12], .ldHlMem 0x1234),
    ([0x3A, 0x34, 0x12], .ldAMem 0x1234),
    ([0x33], .incRp .sp),
    ([0x3B], .decRp .sp),
    ([0x14], .incR .d),
    ([0x34], .incHlInd),
    ([0x15], .decR .d),
    ([0x35], .decHlInd),
    ([0x16, 0x5A], .ldRN .d 0x5A),
    ([0x36, 0x5A], .ldHlIndN 0x5A),
    ([0x07], .rlca),
    ([0x0F], .rrca),
    ([0x17], .rla),
    ([0x1F], .rra)] = true := by
  decide

/-- 30_encoding.md: the map PRIMARY. -/
theorem test_decode_primary_2 : decodesZ [
    ([0x27], .daa),
    ([0x2F], .cpl),
    ([0x37], .scf),
    ([0x3F], .ccf),
    ([0x57], .ldRR .d .a),
    ([0x56], .ldRHlInd .d),
    ([0x77], .ldHlIndR .a),
    ([0x76], .halt),
    ([0x87], .addAR .a),
    ([0x86], .addAHlInd),
    ([0xC6, 0x5A], .addAN 0x5A),
    ([0x8F], .adcAR .a),
    ([0x8E], .adcAHlInd),
    ([0xCE, 0x5A], .adcAN 0x5A),
    ([0x97], .subR .a),
    ([0x96], .subHlInd),
    ([0xD6, 0x5A], .subN 0x5A),
    ([0x9F], .sbcAR .a),
    ([0x9E], .sbcAHlInd),
    ([0xDE, 0x5A], .sbcAN 0x5A),
    ([0xA7], .andR .a),
    ([0xA6], .andHlInd),
    ([0xE6, 0x5A], .andN 0x5A),
    ([0xAF], .xorR .a),
    ([0xAE], .xorHlInd)] = true := by
  decide

/-- 30_encoding.md: the map PRIMARY. -/
theorem test_decode_primary_3 : decodesZ [
    ([0xEE, 0x5A], .xorN 0x5A),
    ([0xB7], .orR .a),
    ([0xB6], .orHlInd),
    ([0xF6, 0x5A], .orN 0x5A),
    ([0xBF], .cpR .a),
    ([0xBE], .cpHlInd),
    ([0xFE, 0x5A], .cpN 0x5A),
    ([0xF0], .retCc .p),
    ([0xF1], .popRp2 .af),
    ([0xC9], .ret),
    ([0xD9], .exx),
    ([0xE9], .jpHl),
    ([0xF9], .ldSpHl),
    ([0xF2, 0x34, 0x12], .jpCcNn .p 0x1234),
    ([0xC3, 0x34, 0x12], .jpNn 0x1234),
    ([0xD3, 0x5A], .outNA 0x5A),
    ([0xDB, 0x5A], .inAN 0x5A),
    ([0xE3], .exSpHl),
    ([0xEB], .exDeHl),
    ([0xF3], .di),
    ([0xFB], .ei),
    ([0xF4, 0x34, 0x12], .callCcNn .p 0x1234),
    ([0xF5], .pushRp2 .af),
    ([0xCD, 0x34, 0x12], .callNn 0x1234),
    ([0xEF], .rst 5)] = true := by
  decide

/-- 30_encoding.md: the map CB. -/
theorem test_decode_cb : decodesZ [
    ([0xCB, 0x06], .rlcM .hlInd),
    ([0xCB, 0x0C], .rrcM (.reg .h)),
    ([0xCB, 0x16], .rlM .hlInd),
    ([0xCB, 0x1C], .rrM (.reg .h)),
    ([0xCB, 0x26], .slaM .hlInd),
    ([0xCB, 0x2C], .sraM (.reg .h)),
    ([0xCB, 0x36], .sllM .hlInd),
    ([0xCB, 0x3C], .srlM (.reg .h)),
    ([0xCB, 0x76], .bitM 6 .hlInd),
    ([0xCB, 0xB4], .resM 6 (.reg .h)),
    ([0xCB, 0xF6], .setM 6 .hlInd)] = true := by
  decide

/-- 30_encoding.md: the map ED. -/
theorem test_decode_ed_1 : decodesZ [
    ([0xED, 0x50], .inRC .d),
    ([0xED, 0x51], .outCR .d),
    ([0xED, 0x72], .sbcHlRp .sp),
    ([0xED, 0x7A], .adcHlRp .sp),
    ([0xED, 0x73, 0x34, 0x12], .ldMemRp .sp 0x1234),
    ([0xED, 0x7B, 0x34, 0x12], .ldRpMem .sp 0x1234),
    ([0xED, 0x44], .neg),
    ([0xED, 0x45], .retn),
    ([0xED, 0x4D], .reti),
    ([0xED, 0x46], .im0),
    ([0xED, 0x56], .im1),
    ([0xED, 0x5E], .im2),
    ([0xED, 0x47], .ldIA),
    ([0xED, 0x4F], .ldRA),
    ([0xED, 0x57], .ldAI),
    ([0xED, 0x5F], .ldAR),
    ([0xED, 0x67], .rrd),
    ([0xED, 0x6F], .rld),
    ([0xED, 0xA0], .ldi),
    ([0xED, 0xA1], .cpi),
    ([0xED, 0xA2], .ini),
    ([0xED, 0xA3], .outi),
    ([0xED, 0xA8], .ldd),
    ([0xED, 0xA9], .cpd),
    ([0xED, 0xAA], .ind)] = true := by
  decide

/-- 30_encoding.md: the map ED. -/
theorem test_decode_ed_2 : decodesZ [
    ([0xED, 0xAB], .outd),
    ([0xED, 0xB0], .ldir),
    ([0xED, 0xB1], .cpir),
    ([0xED, 0xB2], .inir),
    ([0xED, 0xB3], .otir),
    ([0xED, 0xB8], .lddr),
    ([0xED, 0xB9], .cpdr),
    ([0xED, 0xBA], .indr),
    ([0xED, 0xBB], .otdr)] = true := by
  decide

/-- 30_encoding.md: the map DD. -/
theorem test_decode_dd : decodesZ [
    ([0xDD, 0x39], .addIxPp .sp),
    ([0xDD, 0x21, 0x34, 0x12], .ldIxNn 0x1234),
    ([0xDD, 0x22, 0x34, 0x12], .ldMemIx 0x1234),
    ([0xDD, 0x2A, 0x34, 0x12], .ldIxMem 0x1234),
    ([0xDD, 0x23], .incIx),
    ([0xDD, 0x2B], .decIx),
    ([0xDD, 0x34, 0xFE], .incIxd 0xFE),
    ([0xDD, 0x35, 0xFE], .decIxd 0xFE),
    ([0xDD, 0x36, 0xFE, 0x5A], .ldIxdN 0xFE 0x5A),
    ([0xDD, 0x56, 0xFE], .ldRIxd .d 0xFE),
    ([0xDD, 0x77, 0xFE], .ldIxdR 0xFE .a),
    ([0xDD, 0x86, 0xFE], .addAIxd 0xFE),
    ([0xDD, 0x8E, 0xFE], .adcAIxd 0xFE),
    ([0xDD, 0x96, 0xFE], .subIxd 0xFE),
    ([0xDD, 0x9E, 0xFE], .sbcAIxd 0xFE),
    ([0xDD, 0xA6, 0xFE], .andIxd 0xFE),
    ([0xDD, 0xAE, 0xFE], .xorIxd 0xFE),
    ([0xDD, 0xB6, 0xFE], .orIxd 0xFE),
    ([0xDD, 0xBE, 0xFE], .cpIxd 0xFE),
    ([0xDD, 0xE1], .popIx),
    ([0xDD, 0xE5], .pushIx),
    ([0xDD, 0xE3], .exSpIx),
    ([0xDD, 0xE9], .jpIx),
    ([0xDD, 0xF9], .ldSpIx)] = true := by
  decide

/-- 30_encoding.md: the map FD. -/
theorem test_decode_fd : decodesZ [
    ([0xFD, 0x39], .addIyPp .sp),
    ([0xFD, 0x21, 0x34, 0x12], .ldIyNn 0x1234),
    ([0xFD, 0x22, 0x34, 0x12], .ldMemIy 0x1234),
    ([0xFD, 0x2A, 0x34, 0x12], .ldIyMem 0x1234),
    ([0xFD, 0x23], .incIy),
    ([0xFD, 0x2B], .decIy),
    ([0xFD, 0x34, 0xFE], .incIyd 0xFE),
    ([0xFD, 0x35, 0xFE], .decIyd 0xFE),
    ([0xFD, 0x36, 0xFE, 0x5A], .ldIydN 0xFE 0x5A),
    ([0xFD, 0x56, 0xFE], .ldRIyd .d 0xFE),
    ([0xFD, 0x77, 0xFE], .ldIydR 0xFE .a),
    ([0xFD, 0x86, 0xFE], .addAIyd 0xFE),
    ([0xFD, 0x8E, 0xFE], .adcAIyd 0xFE),
    ([0xFD, 0x96, 0xFE], .subIyd 0xFE),
    ([0xFD, 0x9E, 0xFE], .sbcAIyd 0xFE),
    ([0xFD, 0xA6, 0xFE], .andIyd 0xFE),
    ([0xFD, 0xAE, 0xFE], .xorIyd 0xFE),
    ([0xFD, 0xB6, 0xFE], .orIyd 0xFE),
    ([0xFD, 0xBE, 0xFE], .cpIyd 0xFE),
    ([0xFD, 0xE1], .popIy),
    ([0xFD, 0xE5], .pushIy),
    ([0xFD, 0xE3], .exSpIy),
    ([0xFD, 0xE9], .jpIy),
    ([0xFD, 0xF9], .ldSpIy)] = true := by
  decide

/-- 30_encoding.md: the map DDCB. -/
theorem test_decode_ddcb : decodesZ [
    ([0xDD, 0xCB, 0xFE, 0x06], .rlcIxd 0xFE),
    ([0xDD, 0xCB, 0xFE, 0x0E], .rrcIxd 0xFE),
    ([0xDD, 0xCB, 0xFE, 0x16], .rlIxd 0xFE),
    ([0xDD, 0xCB, 0xFE, 0x1E], .rrIxd 0xFE),
    ([0xDD, 0xCB, 0xFE, 0x26], .slaIxd 0xFE),
    ([0xDD, 0xCB, 0xFE, 0x2E], .sraIxd 0xFE),
    ([0xDD, 0xCB, 0xFE, 0x36], .sllIxd 0xFE),
    ([0xDD, 0xCB, 0xFE, 0x3E], .srlIxd 0xFE),
    ([0xDD, 0xCB, 0xFE, 0x76], .bitIxd 6 0xFE),
    ([0xDD, 0xCB, 0xFE, 0xB6], .resIxd 6 0xFE),
    ([0xDD, 0xCB, 0xFE, 0xF6], .setIxd 6 0xFE)] = true := by
  decide

/-- 30_encoding.md: the map FDCB. -/
theorem test_decode_fdcb : decodesZ [
    ([0xFD, 0xCB, 0xFE, 0x06], .rlcIyd 0xFE),
    ([0xFD, 0xCB, 0xFE, 0x0E], .rrcIyd 0xFE),
    ([0xFD, 0xCB, 0xFE, 0x16], .rlIyd 0xFE),
    ([0xFD, 0xCB, 0xFE, 0x1E], .rrIyd 0xFE),
    ([0xFD, 0xCB, 0xFE, 0x26], .slaIyd 0xFE),
    ([0xFD, 0xCB, 0xFE, 0x2E], .sraIyd 0xFE),
    ([0xFD, 0xCB, 0xFE, 0x36], .sllIyd 0xFE),
    ([0xFD, 0xCB, 0xFE, 0x3E], .srlIyd 0xFE),
    ([0xFD, 0xCB, 0xFE, 0x76], .bitIyd 6 0xFE),
    ([0xFD, 0xCB, 0xFE, 0xB6], .resIyd 6 0xFE),
    ([0xFD, 0xCB, 0xFE, 0xF6], .setIyd 6 0xFE)] = true := by
  decide

/-- 30_encoding.md: the 68000 rows of line 0. -/
theorem test_decode_line0 : decodesM [
    ([0x0078, 0x8123, 0x8000], .oriEa .w 0x8123 (.absW 0x8000)),
    ([0x003C, 0x005A], .oriCcr 0x5A),
    ([0x007C, 0x8123], .oriSr 0x8123),
    ([0x0273, 0x8123, 0xB8FE], .andiEa .w 0x8123 (.index 3 ⟨true, 3, true⟩ 0xFE)),
    ([0x023C, 0x005A], .andiCcr 0x5A),
    ([0x027C, 0x8123], .andiSr 0x8123),
    ([0x046E, 0x8123, 0x8002], .subiEa .w 0x8123 (.disp 6 0x8002)),
    ([0x0697, 0x0001, 0x8123], .addiEa .l 0x00018123 (.ind 7)),
    ([0x0A38, 0x005A, 0x8000], .eoriEa .b 0x5A (.absW 0x8000)),
    ([0x0A3C, 0x005A], .eoriCcr 0x5A),
    ([0x0A7C, 0x8123], .eoriSr 0x8123),
    ([0x0C33, 0x005A, 0xB8FE], .cmpiEa .b 0x5A (.index 3 ⟨true, 3, true⟩ 0xFE)),
    ([0x0804, 0x005A], .btstN 0x5A (.dreg 4)),
    ([0x0879, 0x005A, 0x00FF, 0x1234], .bchgN 0x5A (.absL 0x00FF1234)),
    ([0x08AE, 0x005A, 0x8002], .bclrN 0x5A (.disp 6 0x8002)),
    ([0x08D7, 0x005A], .bsetN 0x5A (.ind 7)),
    ([0x0B39, 0x00FF, 0x1234], .btstD 5 (.absL 0x00FF1234)),
    ([0x0B61], .bchgD 5 (.preDec 1)),
    ([0x0B82], .bclrD 5 (.dreg 2)),
    ([0x0BF3, 0xB8FE], .bsetD 5 (.index 3 ⟨true, 3, true⟩ 0xFE)),
    ([0x0B8B, 0x8123], .movep .wToMem 5 3 0x8123)] = true := by
  decide

/-- 30_encoding.md: the 68000 rows of line 1. -/
theorem test_decode_line1 : decodesM [
    ([0x1AFC, 0x005A], .moveB (.imm 0x5A) (.postInc 5))] = true := by
  decide

/-- 30_encoding.md: the 68000 rows of line 2. -/
theorem test_decode_line2 : decodesM [
    ([0x23E6, 0x00FF, 0x1234], .moveL (.preDec 6) (.absL 0x00FF1234)),
    ([0x2650], .moveaL (.ind 0) 3)] = true := by
  decide

/-- 30_encoding.md: the 68000 rows of line 3. -/
theorem test_decode_line3 : decodesM [
    ([0x3F7A, 0x0010, 0x8002], .moveW (.pcDisp 0x0010) (.disp 7 0x8002)),
    ([0x3678, 0x8000], .moveaW (.absW 0x8000) 3)] = true := by
  decide

/-- 30_encoding.md: the 68000 rows of line 4. -/
theorem test_decode_line4_1 : decodesM [
    ([0x4002], .negx .b (.dreg 2)),
    ([0x40F3, 0xB8FE], .moveFromSr (.index 3 ⟨true, 3, true⟩ 0xFE)),
    ([0x429C], .clr .l (.postInc 4)),
    ([0x4439, 0x00FF, 0x1234], .negEa .b (.absL 0x00FF1234)),
    ([0x44C6], .moveToCcr (.dreg 6)),
    ([0x4697], .notEa .l (.ind 7)),
    ([0x46FC, 0x8123], .moveToSr (.imm 0x8123)),
    ([0x4821], .nbcd (.preDec 1)),
    ([0x4842], .swap 2),
    ([0x487A, 0x0010], .pea (.pcDisp 0x0010)),
    ([0x4882], .ext .w 2),
    ([0x48E5, 0x8123], .movemStore .l 0x8123 (.preDec 5)),
    ([0x4A2E, 0x8002], .tst .b (.disp 6 0x8002)),
    ([0x4AD7], .tas (.ind 7)),
    ([0x4AFC], .illegal),
    ([0x4CF1, 0x8123, 0xB8FE], .movemLoad .l 0x8123 (.index 1 ⟨true, 3, true⟩ 0xFE)),
    ([0x4E49], .trap 9),
    ([0x4E53, 0x8123], .link 3 0x8123),
    ([0x4E5B], .unlk 3),
    ([0x4E63], .moveAnUsp 3),
    ([0x4E6B], .moveUspAn 3),
    ([0x4E70], .reset),
    ([0x4E71], .nopM),
    ([0x4E72, 0x8123], .stop 0x8123),
    ([0x4E73], .rte)] = true := by
  decide

/-- 30_encoding.md: the 68000 rows of line 4. -/
theorem test_decode_line4_2 : decodesM [
    ([0x4E75], .rts),
    ([0x4E76], .trapv),
    ([0x4E77], .rtr),
    ([0x4EB6, 0xB8FE], .jsr (.index 6 ⟨true, 3, true⟩ 0xFE)),
    ([0x4ED7], .jmp (.ind 7)),
    ([0x4BBB, 0x2004], .chk (.pcIndex ⟨false, 2, false⟩ 0x04) 5),
    ([0x47F8, 0x8000], .lea (.absW 0x8000) 3)] = true := by
  decide

/-- 30_encoding.md: the 68000 rows of line 5. -/
theorem test_decode_line5 : decodesM [
    ([0x50B8, 0x8000], .addq 0 .l (.absW 0x8000)),
    ([0x5333, 0xB8FE], .subq 1 .b (.index 3 ⟨true, 3, true⟩ 0xFE)),
    ([0x50DC], .scc .t (.postInc 4)),
    ([0x51CA, 0x8123], .dbcc .f 2 0x8123)] = true := by
  decide

/-- 30_encoding.md: the 68000 rows of line 6. -/
theorem test_decode_line6 : decodesM [
    ([0x607E], .bra (.short 0x7E)),
    ([0x617E], .bsr (.short 0x7E)),
    ([0x677E], .bcc .eq (.short 0x7E))] = true := by
  decide

/-- 30_encoding.md: the 68000 rows of line 7. -/
theorem test_decode_line7 : decodesM [
    ([0x7A7E], .moveq 0x7E 5)] = true := by
  decide

/-- 30_encoding.md: the 68000 rows of line 8. -/
theorem test_decode_line8 : decodesM [
    ([0x8A6A, 0x8002], .orEaD .w (.disp 2 0x8002) 5),
    ([0x8BB3, 0xB8FE], .orDEa .l 5 (.index 3 ⟨true, 3, true⟩ 0xFE)),
    ([0x8AE4], .divu (.preDec 4) 5),
    ([0x8BFA, 0x0010], .divs (.pcDisp 0x0010) 5),
    ([0x8D01], .sbcd .regs 1 6)] = true := by
  decide

/-- 30_encoding.md: the 68000 rows of line 9. -/
theorem test_decode_line9 : decodesM [
    ([0x9A39, 0x00FF, 0x1234], .subEaD .b (.absL 0x00FF1234) 5),
    ([0x9B58], .subDEa .w 5 (.postInc 0)),
    ([0x97F8, 0x8000], .suba .l (.absW 0x8000) 3),
    ([0x9D01], .subx .b .regs 1 6)] = true := by
  decide

/-- 30_encoding.md: the 68000 rows of line A. -/
theorem test_decode_lineA : decodesM [
    ([0xA123], .lineA 0x123)] = true := by
  decide

/-- 30_encoding.md: the 68000 rows of line B. -/
theorem test_decode_lineB : decodesM [
    ([0xBABB, 0x2004], .cmpEaD .l (.pcIndex ⟨false, 2, false⟩ 0x04) 5),
    ([0xB7DD], .cmpa .l (.postInc 5) 3),
    ([0xBB6E, 0x8002], .eorDEa .w 5 (.disp 6 0x8002)),
    ([0xBD89], .cmpm .l 1 6)] = true := by
  decide

/-- 30_encoding.md: the 68000 rows of line C. -/
theorem test_decode_lineC : decodesM [
    ([0xCA3A, 0x0010], .andEaD .b (.pcDisp 0x0010) 5),
    ([0xCB71, 0xB8FE], .andDEa .w 5 (.index 1 ⟨true, 3, true⟩ 0xFE)),
    ([0xCAF9, 0x00FF, 0x1234], .mulu (.absL 0x00FF1234) 5),
    ([0xCBD3], .muls (.ind 3) 5),
    ([0xCD01], .abcd .regs 1 6),
    ([0xCD41], .exgDD 6 1),
    ([0xCD49], .exgAA 6 1),
    ([0xCD89], .exgDA 6 1)] = true := by
  decide

/-- 30_encoding.md: the 68000 rows of line D. -/
theorem test_decode_lineD : decodesM [
    ([0xDABB, 0x2004], .addEaD .l (.pcIndex ⟨false, 2, false⟩ 0x04) 5),
    ([0xDB21], .addDEa .b 5 (.preDec 1)),
    ([0xD7F9, 0x00FF, 0x1234], .adda .l (.absL 0x00FF1234) 3),
    ([0xDD89], .addx .l .mem 1 6)] = true := by
  decide

/-- 30_encoding.md: the 68000 rows of line E. -/
theorem test_decode_lineE : decodesM [
    ([0xE604], .asrReg .b (.imm 3) 4),
    ([0xE964], .aslReg .w (.reg 4) 4),
    ([0xEA8C], .lsrReg .l (.imm 5) 4),
    ([0xED2C], .lslReg .b (.reg 6) 4),
    ([0xEE54], .roxrReg .w (.imm 7) 4),
    ([0xE1B4], .roxlReg .l (.reg 0) 4),
    ([0xE21C], .rorReg .b (.imm 1) 4),
    ([0xE57C], .rolReg .w (.reg 2) 4),
    ([0xE0DC], .asrMem (.postInc 4)),
    ([0xE1F9, 0x00FF, 0x1234], .aslMem (.absL 0x00FF1234)),
    ([0xE2F6, 0xB8FE], .lsrMem (.index 6 ⟨true, 3, true⟩ 0xFE)),
    ([0xE3E7], .lslMem (.preDec 7)),
    ([0xE4D0], .roxrMem (.ind 0)),
    ([0xE5F8, 0x8000], .roxlMem (.absW 0x8000)),
    ([0xE6EA, 0x8002], .rorMem (.disp 2 0x8002)),
    ([0xE7DB], .rolMem (.postInc 3))] = true := by
  decide

/-- 30_encoding.md: the 68000 rows of line F. -/
theorem test_decode_lineF : decodesM [
    ([0xF123], .lineF 0x123)] = true := by
  decide
/-- 30_encoding.md R277 to R280: every effective-address mode of ADD.L <ea>,D1. -/
theorem test_decode_modes : decodesM [
    ([0xD280], .addEaD .l (.dreg 0) 1), ([0xD289], .addEaD .l (.areg 1) 1), ([0xD292], .addEaD .l (.ind 2) 1),
    ([0xD29B], .addEaD .l (.postInc 3) 1), ([0xD2A4], .addEaD .l (.preDec 4) 1),
    ([0xD2AD, 0x8000], .addEaD .l (.disp 5 0x8000) 1), ([0xD2B6, 0xF880], .addEaD .l (.index 6 ⟨true, 7, true⟩ 0x80) 1),
    ([0xD2B8, 0xFFFE], .addEaD .l (.absW 0xFFFE) 1), ([0xD2B9, 0x00FF, 0x0102], .addEaD .l (.absL 0x00FF0102) 1),
    ([0xD2BA, 0x0010], .addEaD .l (.pcDisp 0x0010) 1), ([0xD2BB, 0x1002], .addEaD .l (.pcIndex ⟨false, 1, false⟩ 2) 1),
    ([0xD2BC, 0x1234, 0x5678], .addEaD .l (.imm 0x12345678) 1)] = true := by
  decide

/-- 30_encoding.md R278, R280: ignored bits are not read: bits 10:8 of a brief word, the high byte of a byte immediate. -/
theorem test_decode_ignored : decodeWords [0x1030, 0x1F02] = .ok (.moveB (.index 0 ⟨false, 1, true⟩ 2) (.dreg 0)) 4 ∧
    decodeWords [0x0600, 0xAB05] = .ok (.addiEa .b 5 (.dreg 0)) 4 := by
  decide

/-- 95_test_vectors.md T2: empty slots are named with their map. -/
theorem test_decode_unknown : decodeZ80 [0xED, 0x00] = .unknown .ed 0x00 ∧ decodeZ80 [0xDD, 0xEB] = .unknown .dd 0xEB ∧
    decodeZ80 [0xDD, 0xDD] = .unknown .dd 0xDD ∧ decodeZ80 [0xFD, 0xCB, 0x05, 0x00] = .unknown .fdcb 0x00 ∧
    decodeZ80 [0xED, 0x70] = .unknown .ed 0x70 ∧ decodeWords [0x4E74] = .unknown .m68k 0x4E74 ∧
    decodeWords [0x003D] = .unknown .m68k 0x003D ∧ decodeWords [0x1008] = .unknown .m68k 0x1008 := by
  decide

/-! ### WellFormed refuses an ill-formed term of each check -/

/-- A byte immediate of nine bits; an immediate destination; An where only data is allowed. -/
theorem test_wf_immediate : Instr.wf (.addiEa .b 0x100 (.dreg 0)) = false ∧ Instr.wf (.addiEa .w 1 (.imm 0)) = false ∧
    Instr.wf (.oriEa .w 1 (.areg 0)) = false ∧ Instr.wf (.orEaD .w (.areg 0) 0) = false ∧
    Instr.wf (.orEaD .b (.imm 0x100) 0) = false := by
  decide

/-- Bit operations, memory alterable, control, MOVEM and JMP categories. -/
theorem test_wf_categories : Instr.wf (.btstN 0 (.imm 0)) = false ∧ Instr.wf (.btstD 0 (.areg 0)) = false ∧
    Instr.wf (.bsetD 0 (.pcDisp 0)) = false ∧ Instr.wf (.addDEa .w 0 (.dreg 0)) = false ∧
    Instr.wf (.jmp (.postInc 0)) = false ∧ Instr.wf (.lea (.dreg 0) 0) = false ∧
    Instr.wf (.movemStore .w 0 (.postInc 0)) = false ∧ Instr.wf (.movemLoad .w 0 (.preDec 0)) = false ∧
    Instr.wf (.aslMem (.dreg 0)) = false ∧ Instr.wf (.chk (.areg 0) 0) = false := by
  decide

/-- No byte access to An; sizes that have no encoding; branch displacements and conditions that have none. -/
theorem test_wf_sizes : Instr.wf (.moveB (.areg 0) (.dreg 0)) = false ∧ Instr.wf (.addq 0 .b (.areg 0)) = false ∧
    Instr.wf (.addEaD .b (.areg 0) 0) = false ∧ Instr.wf (.adda .b (.dreg 0) 0) = false ∧
    Instr.wf (.ext .b 0) = false ∧ Instr.wf (.movemStore .b 0 (.ind 0)) = false ∧
    Instr.wf (.moveW (.imm 0x10000) (.dreg 0)) = false ∧ Instr.wf (.moveL (.dreg 0) (.areg 0)) = false ∧
    Instr.wf (.bra (.short 0)) = false ∧ Instr.wf (.bcc .t (.short 2)) = false := by
  decide

/-! ### Memory (95 V-MEM) -/

/-- 95_test_vectors.md X1, X2, X5, X9: stubs and the window beyond the image. -/
theorem test_mem_stubs : readM8 State.reset.bus 0xA10003 = 0xFF ∧ readM8 State.reset.bus 0xC00004 = 0 ∧
    readM8 State.reset.bus 0xA04000 = 0 ∧ readM8 State.reset.bus 0x3FFFFF = 0 := by
  decide

/-- 95_test_vectors.md X3: bits 31:24 are ignored. -/
theorem test_mem_high_bits :
    readM8 (writeMem State.reset.bus 0x01FF0010 .b 0x12) 0xFF0010 = 0x12 := by
  decide

/-- 95_test_vectors.md X4: the bridge reaches zram. -/
theorem test_mem_bridge : (Bus.writeM State.reset.bus 0xA01000 0x34).zram = [(0x1000, 0x34)] := by
  decide

/-- 95_test_vectors.md X6, X7: most significant byte first. -/
theorem test_mem_big_endian :
    (writeM16 State.reset.bus 0xFF0000 0xBEEF).wram = [(0, 0xBE), (1, 0xEF)] ∧
      readM32 (writeM16 (writeM16 State.reset.bus 0xFF0000 0xBEEF) 0xFF0002 1) 0xFF0000 = 0xBEEF0001 := by
  decide

/-- 95_test_vectors.md X8: a word read at an odd address. -/
theorem test_mem_misaligned : memRead State.reset 0xFF0001 .w = .error (.misalignedAccess 0xFF0001) := by
  rfl

/-- 95_test_vectors.md X10, X11, X12: little-endian, wrapping, and a discarded stub write. -/
theorem test_mem_z80 : readZ16 (zAt z0 [] [(0x1000, 0x34), (0x1001, 0x12)]) 0x1000 = 0x1234 ∧
    readZ16 (zAt z0 [] [(0, 0x12)]) 0xFFFF = 0x1200 ∧ readZ8 (writeZ8 State.reset 0x2000 0x55) 0x2000 = 0 := by
  decide

/-! ### Fatal conditions, interrupts and resets (95 V-EXC, V-RST) -/

/-- 95_test_vectors.md M2. -/
theorem test_move_misaligned :
    faults (step (mAt [.a 0 0xFF0001] [0x3080] [])) (.misalignedAccess 0xFF0001) = true := by
  decide

/-- 95_test_vectors.md P14. -/
theorem test_trap_15 : faults (step (mAt [] [0x4E4F] [])) (.invalidParameter .trap 16) = true := by
  decide

/-- 95_test_vectors.md T2: executing an empty slot. -/
theorem test_unknown_opcode : faults (step (mAt [] [0x4E74] [])) (.unknownOpcode .m68k 0x4E74) = true ∧
    faults (step (zAt z0 [0xED, 0x00] [])) (.unknownOpcode .ed 0) = true := by
  decide

/-- 60_exceptions.md R1252: an odd PC faults at the fetch. -/
theorem test_fetch_odd :
    faults (step (setPc (mAt [] [] []) 0x1001)) (.misalignedAccess 0x1001) = true := by
  decide

/-- 95_test_vectors.md T8. -/
theorem test_vector_offsets : autovectorOffset 0 = .error (.invalidParameter .autovector 0) ∧
    autovectorOffset 8 = .error (.invalidParameter .autovector 8) ∧ autovectorOffset 1 = .ok 0x64 ∧
    autovectorOffset 7 = .ok 0x7C ∧ trapVectorOffset 1 = .ok 0x80 ∧ trapVectorOffset 15 = .ok 0xB8 ∧
    trapVectorOffset 0 = .error (.invalidParameter .trap 0) := by
  refine ⟨rfl, rfl, rfl, rfl, rfl, rfl, rfl⟩

/-- 95_test_vectors.md E1. -/
theorem test_irq_68k :
    after (step (applyDrive (mAt [.a 7 0xFF8000, .sr 0x2000] [] []) (.ipl 3)))
      (fun t => t.m.sr == 0x2300 && wordAt t 0xFF7FFA == 0x2000 && longAt t 0xFF7FFC == 0x1000 &&
        getAn t 7 == 0xFF7FFA && t.m.pc == 0x206C && t.events == [.intAck68k 3]) = true := by
  decide

/-- 95_test_vectors.md E2: a level not above the mask is not accepted. -/
theorem test_irq_68k_masked :
    after (step (applyDrive (mAt [.sr 0x2300] [0x4E71] []) (.ipl 3)))
      (fun t => t.m.pc == 0x1002 && t.events == []) = true := by
  decide

/-- 95_test_vectors.md E3: the level-7 edge passes the mask. -/
theorem test_irq_68k_nmi :
    after (step (applyDrive (mAt [.a 7 0xFF8000] [] []) (.ipl 7)))
      (fun t => t.m.pc == 0x207C && !t.m.nmi7Pending && t.m.sr == 0x2700) = true := by
  decide

/-- 95_test_vectors.md E4: an interrupt ends STOP. -/
theorem test_irq_68k_stopped :
    after (step (applyDrive (let s := mAt [.sr 0x2000, .a 7 0xFF8000] [] []; s.setM { s.m with stopped := true, pc := 0x1004 }) (.ipl 1)))
      (fun t => !t.m.stopped && longAt t 0xFF7FFC == 0x1004 && t.m.pc == 0x2064) = true := by
  decide

/-- 95_test_vectors.md E5: trace. -/
theorem test_trace :
    after (step (mAt [.sr 0xA000, .a 7 0xFF8000] [0x4E71] []))
      (fun t => longAt t 0xFF7FFC == 0x1002 && wordAt t 0xFF7FFA == 0xA000 && t.m.sr == 0x2000 && t.m.pc == 0x2024) = true := by
  decide

/-- 95_test_vectors.md E6: STOP in user mode. -/
theorem test_privilege :
    after (step (mAt [.sr 0, .a 7 0xFE0000, .osp 0xFF8000] [0x4E72, 0x2700] []))
      (fun t => t.m.sr == 0x2000 && getAn t 7 == 0xFF7FFA && t.m.otherSP == 0xFE0000 && longAt t 0xFF7FFC == 0x1000 &&
        wordAt t 0xFF7FFA == 0 && !t.m.stopped) = true := by
  decide

/-- 95_test_vectors.md E7: NMI. -/
theorem test_nmi :
    after (step (zAt { z0 with iff1 := true, iff2 := true, nmiPending := true, pc := 0x0123, sp := 0x1F00 } [] []))
      (fun t => !t.z.iff1 && t.z.iff2 && readZ16 t 0x1EFE == 0x0123 && t.z.pc == 0x0066 && t.cycles == 11) = true := by
  decide

/-- 95_test_vectors.md E8: interrupt mode 0 with RST 38h on the bus. -/
theorem test_int_im0 :
    after (step (applyDrive (zAt { z0 with iff1 := true, sp := 0x1F00 } [] []) (.z80Int true)))
      (fun t => t.z.pc == 0x0038 && !t.z.iff1 && !t.z.iff2 && t.cycles == 13 && t.events == [.intAckZ80]) = true := by
  decide

/-- 95_test_vectors.md E9. -/
theorem test_int_im0_not_rst :
    (let o := step (applyDrives (zAt { z0 with iff1 := true } [] []) [.z80IntData 0, .z80Int true])
     faults o (.im0DataNotRst 0) && after o (fun t => t.events == [.intAckZ80] && t.m == State.reset.m)) = true := by
  decide

/-- 95_test_vectors.md E10: interrupt mode 2 at an odd vector address. -/
theorem test_int_im2 :
    after (step (applyDrives (zAt { z0 with iff1 := true, im := .im2, i := 0x10, sp := 0x1F00 } [] [(0x1022, 0x05)])
        [.z80IntData 0x21, .z80Int true]))
      (fun t => t.z.pc == 0x0500 && t.cycles == 19) = true := by
  decide

/-- 95_test_vectors.md E11: halted with interrupts disabled. -/
theorem test_halted_idle :
    after (step (applyDrive (zAt { z0 with halted := true } [] []) (.z80Int true)))
      (fun t => t.z.halted && t.z.r == 1 && t.cycles == 4) = true := by
  decide

/-- 95_test_vectors.md L30: no acceptance between EI and the instruction after it. -/
theorem test_ei_delay :
    after (step (applyDrive (zAt { z0 with iff1 := true, eiDelay := true } [0x00] []) (.z80Int true)))
      (fun t => t.z.pc == 0x0101 && t.z.iff1 && !t.z.eiDelay) = true := by
  decide

/-- 95_test_vectors.md E12: the 68000's reset as a host's call. -/
theorem test_reset_68k :
    after (step (let s := mAt [.d 3 7, .sr 0] [] []
        { s with
          bus := { s.bus with rom := some ⟨0x400, [(1, 0xFF), (6, 0x02)]⟩ }
          host := { s.host with script := [⟨[], .reset .m68k⟩] } }))
      (fun t => getAn t 7 == 0x00FF0000 && t.m.pc == 0x200 && t.m.sr == 0x2700 && getD t 3 == 0) = true := by
  decide

/-- 95_test_vectors.md E13: no image. -/
theorem test_reset_no_image :
    faults (step (let s := State.reset
        { s with bus := { s.bus with rom := none }, host := { s.host with script := [⟨[], .reset .m68k⟩] } })) .noImage = true := by
  decide

/-- 95_test_vectors.md E15: a faulted CPU returns its condition again and nothing else changes. -/
theorem test_faulted :
    (let s := mAt [] [0x4E71] []
     let t := s.setM { s.m with faulted := some (.misalignedAccess 0xFF0001) }
     step t = .next { t with fatal := some (.misalignedAccess 0xFF0001) }) := by
  rfl

/-- 60_exceptions.md R1202: the other CPU goes on, and its call returns no condition. -/
theorem test_other_cpu_goes_on :
    after (step { zAt z0 [0x3C] [] with m := { State.reset.m with faulted := some .noImage }, fatal := some .noImage })
      (fun t => getA t.z == 1 && t.m.faulted == some .noImage && t.fatal == none && t.cycles == 4) = true := by
  decide

/-- 60_exceptions.md R1260 (D47), R1262: the trace exception on an odd supervisor stack. -/
theorem test_trace_odd_stack :
    faults (step (mAt [.sr 0xA700, .a 7 0xFF0105] [0x4E71] [])) (.misalignedAccess 0xFF0101) = true := by
  decide

/-- 46_m68k_logic_shift_bit.md R1005 (D54): a sum of digits beyond 9, r = 0x9A before the subtraction. -/
theorem test_abcd_beyond_nine : abcd8 0x8A 0x0A false = (0xFA, true) := by decide

/-- 42_z80_block_io.md R631: IN B,(C) writes B before WZ takes BC + 1. -/
theorem test_in_b_c :
    after (step (withPort 0x1234 0x56 (zAt { z0 with bc := 0x1234 } [0xED, 0x40] [])))
      (fun t => t.z.bc == 0x5634 && t.z.wz == 0x5635 && t.cycles == 12) = true := by
  decide

/-- 46 R1005, 95_test_vectors.md S35 to S38: the BCD formulas. -/
theorem test_bcd_formulas : abcd8 0x38 0x45 false = (0x83, false) ∧ abcd8 0x01 0x99 false = (0x00, true) ∧
    sbcd8 0x01 0x10 false = (0x09, false) ∧ sbcd8 0x01 0x00 false = (0x99, true) ∧ sbcd8 0x25 0 false = (0x75, true) := by
  decide

/-- 95_test_vectors.md T3: RLC eight times. -/
theorem test_rlc_eight :
    (Nat.fold 8 (fun _ _ p => shift8 .rlc p.1 p.2) ((0x80, false) : Byte × Bool)) = (0x80, false) := by
  decide

/-! ### The host's question -/

/-- A word of the table decodes, and is what the step after reset runs. -/
theorem test_withFetchWord : decodeTableWord 16 0x7005 = some (.moveq 5 0) ∧ decodeTableWord 8 0x3E = some (.ldRN .a 0) ∧
    after (step (State.reset.withFetchWord 16 0x7005)) (fun t => getD t 0 == 5 && t.m.pc == 2) = true ∧
    after (step (State.reset.withFetchWord 8 0x76)) (fun t => t.z.halted && t.z.pc == 1) = true := by
  decide

/-! ### Z80 arithmetic (95 V-Z80-ALU) -/

/-- 95_test_vectors.md A1 -/
theorem test_add_r :
    after (step (zAt { z0 with af := 0x7F00, bc := 0x0100 } [0x80] [])) (fun t => t.z.af == 0x8094) = true := by
  decide

/-- 95_test_vectors.md A2 -/
theorem test_add_n :
    after (step (zAt { z0 with af := 0xFF00 } [0xC6, 0x01] [])) (fun t => t.z.af == 0x0051) = true := by
  decide

/-- 95_test_vectors.md A4 -/
theorem test_adc_n :
    after (step (zAt { z0 with af := 0xFF01 } [0xCE, 0xFF] [])) (fun t => t.z.af == 0xFFB9) = true := by
  decide

/-- 95_test_vectors.md A5 -/
theorem test_sub_n :
    after (step (zAt { z0 with af := 0x8000 } [0xD6, 0x01] [])) (fun t => t.z.af == 0x7F3E) = true := by
  decide

/-- 95_test_vectors.md A6 -/
theorem test_sub_borrow :
    after (step (zAt { z0 with af := 0x0000 } [0xD6, 0x01] [])) (fun t => t.z.af == 0xFFBB) = true := by
  decide

/-- 95_test_vectors.md A7 -/
theorem test_sbc_n :
    after (step (zAt { z0 with af := 0x7F00 } [0xDE, 0xFF] [])) (fun t => t.z.af == 0x8087) = true := by
  decide

/-- 95_test_vectors.md A8 -/
theorem test_sbc_carry :
    after (step (zAt { z0 with af := 0x0001 } [0xDE, 0x00] [])) (fun t => t.z.af == 0xFFBB) = true := by
  decide

/-- 95_test_vectors.md A9 -/
theorem test_and_n :
    after (step (zAt { z0 with af := 0xF000 } [0xE6, 0x3C] [])) (fun t => t.z.af == 0x3034) = true := by
  decide

/-- 95_test_vectors.md A10 -/
theorem test_xor_n :
    after (step (zAt { z0 with af := 0xF000 } [0xEE, 0x3C] [])) (fun t => t.z.af == 0xCC8C) = true := by
  decide

/-- 95_test_vectors.md A11 -/
theorem test_or_n :
    after (step (zAt { z0 with af := 0x5500 } [0xF6, 0xAA] [])) (fun t => t.z.af == 0xFFAC) = true := by
  decide

/-- 95_test_vectors.md A12 -/
theorem test_cp_n :
    after (step (zAt { z0 with af := 0x1000 } [0xFE, 0x28] [])) (fun t => t.z.af == 0x10BB) = true := by
  decide

/-- 95_test_vectors.md A13 -/
theorem test_inc_r :
    after (step (zAt { z0 with bc := 0x2800, af := 0x0001 } [0x04] []))
      (fun t => t.z.bc == 0x2900 && t.z.af == 0x0029) = true := by
  decide

/-- 95_test_vectors.md A14 -/
theorem test_inc_overflow :
    after (step (zAt { z0 with bc := 0x7F00 } [0x04] [])) (fun t => t.z.bc == 0x8000 && t.z.af == 0x0094) = true := by
  decide

/-- 95_test_vectors.md A15 -/
theorem test_dec_hl :
    after (step (zAt { z0 with hl := 0x1000 } [0x35] [(0x1000, 0x10)]))
      (fun t => t.bus.zram == [(0x100, 0x35), (0x1000, 0x0F)] && t.z.af == 0x001A) = true := by
  decide

/-- 95_test_vectors.md A16 -/
theorem test_dec_overflow :
    after (step (zAt { z0 with bc := 0x8000 } [0x05] [])) (fun t => t.z.bc == 0x7F00 && t.z.af == 0x003E) = true := by
  decide

/-- 95_test_vectors.md A18 -/
theorem test_daa :
    after (step (zAt { z0 with af := 0x9A00 } [0x27] [])) (fun t => t.z.af == 0x0055) = true := by
  decide

/-- 95_test_vectors.md A19 -/
theorem test_daa_sub :
    after (step (zAt { z0 with af := 0x0E12 } [0x27] [])) (fun t => t.z.af == 0x080A) = true := by
  decide

/-- 95_test_vectors.md A20 -/
theorem test_cpl :
    after (step (zAt { z0 with af := 0x5A00 } [0x2F] [])) (fun t => t.z.af == 0xA532) = true := by
  decide

/-- 95_test_vectors.md A21 -/
theorem test_neg :
    after (step (zAt { z0 with af := 0x0100 } [0xED, 0x44] [])) (fun t => t.z.af == 0xFFBB) = true := by
  decide

/-- 95_test_vectors.md A22 -/
theorem test_neg_min :
    after (step (zAt { z0 with af := 0x8000 } [0xED, 0x44] [])) (fun t => t.z.af == 0x8087) = true := by
  decide

/-- 95_test_vectors.md A23 -/
theorem test_scf :
    after (step (zAt { z0 with af := 0x2800 } [0x37] [])) (fun t => t.z.af == 0x2829) = true := by
  decide

/-- 95_test_vectors.md A24 -/
theorem test_ccf :
    after (step (zAt { z0 with af := 0x0001 } [0x3F] [])) (fun t => t.z.af == 0x0010) = true := by
  decide

/-- 95_test_vectors.md A25 -/
theorem test_add_hl :
    after (step (zAt { z0 with hl := 0x0FFF, de := 0x0001 } [0x19] []))
      (fun t => t.z.hl == 0x1000 && t.z.af == 0x0010 && t.z.wz == 0x1000) = true := by
  decide

/-- 95_test_vectors.md A26 -/
theorem test_adc_hl :
    after (step (zAt { z0 with hl := 0x7FFF, af := 0x0001 } [0xED, 0x4A] []))
      (fun t => t.z.hl == 0x8000 && t.z.af == 0x0094) = true := by
  decide

/-- 95_test_vectors.md A27 -/
theorem test_sbc_hl :
    after (step (zAt { z0 with de := 0x0001 } [0xED, 0x52] [])) (fun t => t.z.hl == 0xFFFF && t.z.af == 0x00BB) = true := by
  decide

/-- 95_test_vectors.md A28 -/
theorem test_add_ix :
    after (step (zAt { z0 with ix := 0x2800, de := 0x0800 } [0xDD, 0x19] []))
      (fun t => t.z.ix == 0x3000 && t.z.af == 0x0030) = true := by
  decide

/-- 95_test_vectors.md A29 -/
theorem test_inc_sp :
    after (step (zAt { z0 with sp := 0xFFFF } [0x33] [])) (fun t => t.z.sp == 0 && t.z.af == 0) = true := by
  decide

/-- 95_test_vectors.md A30 -/
theorem test_dec_bc :
    after (step (zAt { z0 with bc := 0x0001 } [0x0B] [])) (fun t => t.z.bc == 0 && t.z.af == 0) = true := by
  decide

/-! ### Z80 rotates and bits (95 V-Z80-ROT) -/

/-- 95_test_vectors.md B1 -/
theorem test_rlca :
    after (step (zAt { z0 with af := 0x8100 } [0x07] [])) (fun t => t.z.af == 0x0301) = true := by
  decide

/-- 95_test_vectors.md B2 -/
theorem test_rrca :
    after (step (zAt { z0 with af := 0x0100 } [0x0F] [])) (fun t => t.z.af == 0x8001) = true := by
  decide

/-- 95_test_vectors.md B3 -/
theorem test_rla :
    after (step (zAt { z0 with af := 0x8100 } [0x17] [])) (fun t => t.z.af == 0x0201) = true := by
  decide

/-- 95_test_vectors.md B4 -/
theorem test_rra :
    after (step (zAt { z0 with af := 0x0101 } [0x1F] [])) (fun t => t.z.af == 0x8001) = true := by
  decide

/-- 95_test_vectors.md B5 -/
theorem test_rlc :
    after (step (zAt { z0 with bc := 0x8100 } [0xCB, 0x00] [])) (fun t => t.z.bc == 0x0300 && t.z.af == 0x0005) = true := by
  decide

/-- 95_test_vectors.md B6 -/
theorem test_rrc :
    after (step (zAt { z0 with bc := 0x0081 } [0xCB, 0x09] [])) (fun t => t.z.bc == 0x00C0 && t.z.af == 0x0085) = true := by
  decide

/-- 95_test_vectors.md B7 -/
theorem test_rl :
    after (step (zAt { z0 with de := 0x0100, af := 0x0001 } [0xCB, 0x12] []))
      (fun t => t.z.de == 0x0300 && t.z.af == 0x0004) = true := by
  decide

/-- 95_test_vectors.md B8 -/
theorem test_rr :
    after (step (zAt { z0 with de := 0x0001, af := 0x0001 } [0xCB, 0x1B] []))
      (fun t => t.z.de == 0x0080 && t.z.af == 0x0081) = true := by
  decide

/-- 95_test_vectors.md B9 -/
theorem test_sla :
    after (step (zAt { z0 with hl := 0x8100 } [0xCB, 0x24] [])) (fun t => t.z.hl == 0x0200 && t.z.af == 0x0001) = true := by
  decide

/-- 95_test_vectors.md B10 -/
theorem test_sra :
    after (step (zAt { z0 with hl := 0x0081 } [0xCB, 0x2D] [])) (fun t => t.z.hl == 0x00C0 && t.z.af == 0x0085) = true := by
  decide

/-- 95_test_vectors.md B11 -/
theorem test_sll :
    after (step (zAt z0 [0xCB, 0x37] [])) (fun t => t.z.af == 0x0100) = true := by
  decide

/-- 95_test_vectors.md B12 -/
theorem test_srl_hl :
    after (step (zAt { z0 with hl := 0x1000 } [0xCB, 0x3E] [(0x1000, 0x01)]))
      (fun t => readZ8 t 0x1000 == 0 && t.z.af == 0x0045 && t.cycles == 15) = true := by
  decide

/-- 95_test_vectors.md B13 -/
theorem test_rld :
    after (step (zAt { z0 with af := 0x7A00, hl := 0x1000 } [0xED, 0x6F] [(0x1000, 0x31)]))
      (fun t => readZ8 t 0x1000 == 0x1A && t.z.af == 0x7320 && t.z.wz == 0x1001) = true := by
  decide

/-- 95_test_vectors.md B14 -/
theorem test_rrd :
    after (step (zAt { z0 with af := 0x7A00, hl := 0x1000 } [0xED, 0x67] [(0x1000, 0x31)]))
      (fun t => readZ8 t 0x1000 == 0xA3 && t.z.af == 0x7124 && t.z.wz == 0x1001) = true := by
  decide

/-- 95_test_vectors.md B15 -/
theorem test_bit_r :
    after (step (zAt { z0 with af := 0x2800 } [0xCB, 0x5F] [])) (fun t => t.z.af == 0x2838) = true := by
  decide

/-- 95_test_vectors.md B17 -/
theorem test_bit_hl :
    after (step (zAt { z0 with hl := 0x1000, wz := 0x2800 } [0xCB, 0x46] [])) (fun t => t.z.af == 0x007C) = true := by
  decide

/-- 95_test_vectors.md B18 -/
theorem test_set_ixd :
    after (step (zAt { z0 with ix := 0x1000 } [0xDD, 0xCB, 0x05, 0xFE] []))
      (fun t => readZ8 t 0x1005 == 0x80 && t.z.wz == 0x1005 && t.cycles == 23) = true := by
  decide

/-- 95_test_vectors.md B19 -/
theorem test_res_r :
    after (step (zAt { z0 with bc := 0xFF00 } [0xCB, 0x80] [])) (fun t => t.z.bc == 0xFE00) = true := by
  decide

/-! ### Z80 block transfer and ports (95 V-Z80-BLK) -/

/-- 95_test_vectors.md K1 -/
theorem test_ldi :
    after (step (zAt { z0 with hl := 0x1000, de := 0x1100, bc := 2 } [0xED, 0xA0] [(0x1000, 0x3C)]))
      (fun t => readZ8 t 0x1100 == 0x3C && t.z.hl == 0x1001 && t.z.de == 0x1101 && t.z.bc == 1 && t.z.af == 0x000C) = true := by
  decide

/-- 95_test_vectors.md K2 -/
theorem test_ldd :
    after (step (zAt { z0 with af := 0x2000, hl := 0x1005, de := 0x1105, bc := 1 } [0xED, 0xA8] [(0x1005, 0x12)]))
      (fun t => readZ8 t 0x1105 == 0x12 && t.z.hl == 0x1004 && t.z.de == 0x1104 && t.z.bc == 0 && t.z.af == 0x2020) = true := by
  decide

/-- 95_test_vectors.md K3 -/
theorem test_ldir_last :
    after (step (zAt { z0 with hl := 0x1000, de := 0x1100, bc := 1 } [0xED, 0xB0] [(0x1000, 0x3C)]))
      (fun t => readZ8 t 0x1100 == 0x3C && t.z.bc == 0 && t.z.pc == 0x0102 && t.z.af == 0x0008 && t.cycles == 16) = true := by
  decide

/-- 95_test_vectors.md K4 -/
theorem test_ldir_wraps :
    after (step (zAt { z0 with hl := 0x1000, de := 0x1100 } [0xED, 0xB0] []))
      (fun t => t.z.bc == 0xFFFF && t.z.pc == 0x0100 && t.z.wz == 0x0101 && t.cycles == 21) = true := by
  decide

/-- 95_test_vectors.md K5 -/
theorem test_lddr :
    after (step (zAt { z0 with hl := 0x1001, de := 0x1101, bc := 2 } [0xED, 0xB8] [(0x1001, 0x77)]))
      (fun t => readZ8 t 0x1101 == 0x77 && t.z.bc == 1 && t.z.pc == 0x0100 && t.cycles == 21) = true := by
  decide

/-- 95_test_vectors.md K6 -/
theorem test_cpi :
    after (step (zAt { z0 with af := 0x3C00, hl := 0x1000, bc := 1 } [0xED, 0xA1] [(0x1000, 0x3C)]))
      (fun t => t.z.bc == 0 && t.z.af == 0x3C42) = true := by
  decide

/-- 95_test_vectors.md K7 -/
theorem test_cpd :
    after (step (zAt { z0 with af := 0x1000, hl := 0x1000, bc := 5 } [0xED, 0xA9] [(0x1000, 0x01)]))
      (fun t => t.z.bc == 4 && t.z.hl == 0x0FFF && t.z.af == 0x103E) = true := by
  decide

/-- 95_test_vectors.md K8 -/
theorem test_cpir_match :
    after (step (zAt { z0 with af := 0x3C00, hl := 0x1000, bc := 5 } [0xED, 0xB1] [(0x1000, 0x3C)]))
      (fun t => t.z.bc == 4 && fZ (getF t.z) && fPV (getF t.z) && t.z.pc == 0x0102 && t.cycles == 16) = true := by
  decide

/-- 95_test_vectors.md K9 -/
theorem test_cpdr :
    after (step (zAt { z0 with hl := 0x1001, bc := 2 } [0xED, 0xB9] [(0x1001, 0x05)]))
      (fun t => t.z.bc == 1 && t.z.pc == 0x0100 && t.cycles == 21) = true := by
  decide

/-- 95_test_vectors.md K13 -/
theorem test_outi :
    after (step (zAt { z0 with bc := 0x0120, hl := 0x1000 } [0xED, 0xA3] [(0x1000, 0xF0)]))
      (fun t => t.events == [.ioWrite 0x0020 0xF0] && t.z.bc == 0x0020 && t.z.hl == 0x1001 && t.z.wz == 0x0021 && t.z.af == 0x0042) = true := by
  decide

/-- 95_test_vectors.md K14 -/
theorem test_outd :
    after (step (zAt { z0 with bc := 0x0120, hl := 0x1000 } [0xED, 0xAB] [(0x1000, 0xF0)]))
      (fun t => t.events == [.ioWrite 0x0020 0xF0] && t.z.hl == 0x0FFF && t.z.wz == 0x001F && t.z.af == 0x0053) = true := by
  decide

/-- 95_test_vectors.md K15 -/
theorem test_otir :
    after (step (zAt { z0 with bc := 0x0220 } [0xED, 0xB3] []))
      (fun t => t.events == [.ioWrite 0x0120 0x00] && t.z.pc == 0x0100 && t.cycles == 21) = true := by
  decide

/-- 42_z80_block_io.md R624, R625 -/
theorem test_otdr :
    after (step (zAt { z0 with bc := 0x0220, hl := 0x1000 } [0xED, 0xBB] [(0x1000, 0xF0)]))
      (fun t => t.events == [.ioWrite 0x0120 0xF0] && t.z.hl == 0x0FFF && t.z.pc == 0x0100) = true := by
  decide

/-- 95_test_vectors.md K18 -/
theorem test_out_n :
    after (step (zAt { z0 with af := 0x9F00 } [0xD3, 0x7F] []))
      (fun t => t.events == [.ioWrite 0x9F7F 0x9F] && t.z.wz == 0x9F80) = true := by
  decide

/-- 95_test_vectors.md K19 -/
theorem test_out_c :
    after (step (zAt { z0 with bc := 0x0140, af := 0x5500 } [0xED, 0x79] []))
      (fun t => t.events == [.ioWrite 0x0140 0x55] && t.z.wz == 0x0141) = true := by
  decide

/-- 95_test_vectors.md K10 -/
theorem test_ini :
    after (step (withPort 0x0210 0x7F (zAt { z0 with bc := 0x0210, hl := 0x1000 } [0xED, 0xA2] [])))
      (fun t => readZ8 t 0x1000 == 0x7F && t.z.bc == 0x0110 && t.z.hl == 0x1001 && t.z.wz == 0x0211 && t.z.af == 0) = true := by
  decide

/-- 95_test_vectors.md K11 -/
theorem test_ind :
    after (step (withPort 0x1005 0xFF (zAt { z0 with bc := 0x1005, hl := 0x1000 } [0xED, 0xAA] [])))
      (fun t => t.z.bc == 0x0F05 && t.z.wz == 0x1004 && t.z.af == 0x001F) = true := by
  decide

/-- 95_test_vectors.md K12 -/
theorem test_inir :
    after (step (withPort 0x0110 0x7F (zAt { z0 with bc := 0x0110, hl := 0x1000 } [0xED, 0xB2] [])))
      (fun t => t.z.bc == 0x0010 && fZ (getF t.z) && t.z.pc == 0x0102 && t.cycles == 16) = true := by
  decide

/-- 42_z80_block_io.md R621 -/
theorem test_indr :
    after (step (withPort 0x0210 0x7F (zAt { z0 with bc := 0x0210, hl := 0x1000 } [0xED, 0xBA] [])))
      (fun t => t.z.bc == 0x0110 && t.z.pc == 0x0100 && t.cycles == 21) = true := by
  decide

/-- 95_test_vectors.md K16 -/
theorem test_in_n :
    after (step (withPort 0x1234 0x56 (zAt { z0 with af := 0x1200 } [0xDB, 0x34] [])))
      (fun t => t.z.af == 0x5600 && t.z.wz == 0x1235) = true := by
  decide

/-- 95_test_vectors.md K17 -/
theorem test_in_c :
    after (step (withPort 0x0010 0x00 (zAt { z0 with bc := 0x0010 } [0xED, 0x50] [])))
      (fun t => t.z.de == 0 && t.z.af == 0x0044) = true := by
  decide

/-! ### Z80 control (95 V-Z80-CTL) -/

/-- 95_test_vectors.md J1 -/
theorem test_jp :
    after (step (zAt z0 [0xC3, 0x00, 0x01] [])) (fun t => t.z.pc == 0x0100 && t.z.wz == 0x0100) = true := by
  decide

/-- 95_test_vectors.md J2 -/
theorem test_jp_cc_untaken :
    after (step (zAt z0 [0xCA, 0x34, 0x12] [])) (fun t => t.z.pc == 0x0103 && t.z.wz == 0x1234) = true := by
  decide

/-- 95_test_vectors.md J3 -/
theorem test_jr :
    after (step (zAt z0 [0x18, 0x05] [])) (fun t => t.z.pc == 0x0107) = true := by
  decide

/-- 95_test_vectors.md J4 -/
theorem test_jr_back :
    after (step (zAt z0 [0x18, 0xFE] [])) (fun t => t.z.pc == 0x0100) = true := by
  decide

/-- 95_test_vectors.md J5 -/
theorem test_jr_cc_untaken :
    after (step (zAt z0 [0x38, 0x10] [])) (fun t => t.z.pc == 0x0102 && t.z.wz == 0x0112 && t.cycles == 7) = true := by
  decide

/-- 95_test_vectors.md J6 -/
theorem test_djnz_untaken :
    after (step (zAt { z0 with bc := 0x0100 } [0x10, 0xFE] []))
      (fun t => t.z.bc == 0 && t.z.pc == 0x0102 && t.z.wz == 0x0100 && t.cycles == 8) = true := by
  decide

/-- 95_test_vectors.md J7 -/
theorem test_djnz_wraps :
    after (step (zAt z0 [0x10, 0xFE] [])) (fun t => t.z.bc == 0xFF00 && t.z.pc == 0x0100 && t.cycles == 13) = true := by
  decide

/-- 95_test_vectors.md J8 -/
theorem test_jp_hl :
    after (step (zAt { z0 with hl := 0x4000, wz := 0x1111 } [0xE9] []))
      (fun t => t.z.pc == 0x4000 && t.z.wz == 0x1111) = true := by
  decide

/-- 95_test_vectors.md J9 -/
theorem test_call :
    after (step (zAt { z0 with sp := 0x1FF0 } [0xCD, 0x00, 0x10] []))
      (fun t => readZ8 t 0x1FEF == 0x01 && readZ8 t 0x1FEE == 0x03 && t.z.sp == 0x1FEE && t.z.pc == 0x1000 && t.z.wz == 0x1000) = true := by
  decide

/-- 95_test_vectors.md J10 -/
theorem test_call_lost :
    after (step (zAt { z0 with sp := 0 } [0xCD, 0x00, 0x10] []))
      (fun t => t.z.sp == 0xFFFE && readZ16 t 0xFFFE == 0) = true := by
  decide

/-- 95_test_vectors.md J11 -/
theorem test_call_cc :
    after (step (zAt { z0 with af := 0x0080, sp := 0x1FF0 } [0xFC, 0x00, 0x20] []))
      (fun t => t.z.pc == 0x2000 && t.z.sp == 0x1FEE && t.cycles == 17) = true := by
  decide

/-- 95_test_vectors.md J12 -/
theorem test_ret :
    after (step (zAt { z0 with sp := 0x1FEE } [0xC9] [(0x1FEE, 0x03), (0x1FEF, 0x01)]))
      (fun t => t.z.pc == 0x0103 && t.z.sp == 0x1FF0) = true := by
  decide

/-- 95_test_vectors.md J13 -/
theorem test_ret_cc_untaken :
    after (step (zAt { z0 with sp := 0x1FEE } [0xC8] [(0x1FEE, 0x03), (0x1FEF, 0x01)]))
      (fun t => t.z.pc == 0x0101 && t.z.sp == 0x1FEE && t.z.wz == 0x0103 && t.cycles == 5) = true := by
  decide

/-- 95_test_vectors.md J14 -/
theorem test_reti :
    after (step (zAt { z0 with iff2 := true } [0xED, 0x4D] [])) (fun t => t.z.iff1) = true := by
  decide

/-- 95_test_vectors.md J15 -/
theorem test_retn :
    after (step (zAt { z0 with iff2 := true } [0xED, 0x45] [])) (fun t => t.z.iff1) = true := by
  decide

/-- 95_test_vectors.md J16 -/
theorem test_rst :
    after (step (zAt { z0 with sp := 0x1FF0 } [0xFF] []))
      (fun t => t.z.pc == 0x0038 && readZ16 t 0x1FEE == 0x0101) = true := by
  decide

/-! ### Z80 loads (95 V-Z80-LD) -/

/-- 95_test_vectors.md L1 -/
theorem test_ld_r_r :
    after (step (zAt { z0 with af := 0x1200 } [0x47] [])) (fun t => t.z.bc == 0x1200) = true := by
  decide

/-- 95_test_vectors.md L2 -/
theorem test_ld_r_n :
    after (step (zAt z0 [0x3E, 0x80] [])) (fun t => t.z.af == 0x8000) = true := by
  decide

/-- 95_test_vectors.md L3 -/
theorem test_ld_l_hl :
    after (step (zAt { z0 with hl := 0x1000 } [0x6E] [(0x1000, 0xAB)])) (fun t => t.z.hl == 0x10AB) = true := by
  decide

/-- 95_test_vectors.md L4 -/
theorem test_ld_hl_h :
    after (step (zAt { z0 with hl := 0x1234 } [0x74] [])) (fun t => readZ8 t 0x1234 == 0x12) = true := by
  decide

/-- 95_test_vectors.md L5 -/
theorem test_ld_hl_n :
    after (step (zAt { z0 with hl := 0x1000 } [0x36, 0x5A] [])) (fun t => readZ8 t 0x1000 == 0x5A) = true := by
  decide

/-- 95_test_vectors.md L6 -/
theorem test_ld_r_ixd :
    after (step (zAt { z0 with ix := 0x1000 } [0xDD, 0x7E, 0xFF] [(0x0FFF, 0x42)]))
      (fun t => t.z.af == 0x4200 && t.z.wz == 0x0FFF) = true := by
  decide

/-- 95_test_vectors.md L7 -/
theorem test_ld_iyd_r :
    after (step (zAt { z0 with iy := 0x1100, af := 0x9900 } [0xFD, 0x77, 0x02] []))
      (fun t => readZ8 t 0x1102 == 0x99) = true := by
  decide

/-- 95_test_vectors.md L8 -/
theorem test_ld_ixd_n :
    after (step (zAt { z0 with ix := 0x1000 } [0xDD, 0x36, 0x05, 0xAA] [])) (fun t => readZ8 t 0x1005 == 0xAA) = true := by
  decide

/-- 95_test_vectors.md L9 -/
theorem test_ld_a_de :
    after (step (zAt { z0 with de := 0x1FFF } [0x1A] [(0x1FFF, 0x01)]))
      (fun t => t.z.af == 0x0100 && t.z.wz == 0x2000) = true := by
  decide

/-- 95_test_vectors.md L10 -/
theorem test_ld_bc_a :
    after (step (zAt { z0 with bc := 0x10FF, af := 0x3300 } [0x02] []))
      (fun t => readZ8 t 0x10FF == 0x33 && t.z.wz == 0x3300) = true := by
  decide

/-- 95_test_vectors.md L11 -/
theorem test_ld_a_nn :
    after (step (zAt z0 [0x3A, 0x00, 0x10] [(0x1000, 0x07)])) (fun t => t.z.af == 0x0700 && t.z.wz == 0x1001) = true := by
  decide

/-- 95_test_vectors.md L12 -/
theorem test_ld_nn_a :
    after (step (zAt { z0 with af := 0x0700 } [0x32, 0x00, 0x10] []))
      (fun t => readZ8 t 0x1000 == 0x07 && t.z.wz == 0x0701) = true := by
  decide

/-- 95_test_vectors.md L13 -/
theorem test_ld_sp_nn :
    after (step (zAt z0 [0x31, 0xF0, 0x1F] [])) (fun t => t.z.sp == 0x1FF0) = true := by
  decide

/-- 95_test_vectors.md L14 -/
theorem test_ld_hl_nn :
    after (step (zAt z0 [0x2A, 0x00, 0x10] [(0x1000, 0x34), (0x1001, 0x12)]))
      (fun t => t.z.hl == 0x1234 && t.z.wz == 0x1001) = true := by
  decide

/-- 95_test_vectors.md L15 -/
theorem test_ld_nn_sp :
    after (step (zAt { z0 with sp := 0x1FF0 } [0xED, 0x73, 0x00, 0x10] []))
      (fun t => readZ8 t 0x1000 == 0xF0 && readZ8 t 0x1001 == 0x1F) = true := by
  decide

/-- 95_test_vectors.md L16 -/
theorem test_ld_sp_hl :
    after (step (zAt { z0 with hl := 0x1E00 } [0xF9] [])) (fun t => t.z.sp == 0x1E00) = true := by
  decide

/-- 95_test_vectors.md L17 -/
theorem test_push_af :
    after (step (zAt { z0 with sp := 0x1FF0, af := 0x12D7 } [0xF5] []))
      (fun t => readZ8 t 0x1FEF == 0x12 && readZ8 t 0x1FEE == 0xD7 && t.z.sp == 0x1FEE) = true := by
  decide

/-- 95_test_vectors.md L18 -/
theorem test_pop_bc :
    after (step (zAt { z0 with sp := 0x1FEE } [0xC1] [(0x1FEE, 0xD7), (0x1FEF, 0x12)]))
      (fun t => t.z.bc == 0x12D7 && t.z.sp == 0x1FF0) = true := by
  decide

/-- 95_test_vectors.md L19 -/
theorem test_ex_de_hl :
    after (step (zAt { z0 with de := 0x1111, hl := 0x2222 } [0xEB] []))
      (fun t => t.z.de == 0x2222 && t.z.hl == 0x1111) = true := by
  decide

/-- 95_test_vectors.md L20 -/
theorem test_ex_af :
    after (step (zAt { z0 with af := 0x0102, afAlt := 0x0304 } [0x08] []))
      (fun t => t.z.af == 0x0304 && t.z.afAlt == 0x0102) = true := by
  decide

/-- 95_test_vectors.md L21 -/
theorem test_exx :
    after (step (zAt { z0 with bc := 1, bcAlt := 2, de := 3, hlAlt := 4 } [0xD9] []))
      (fun t => t.z.bc == 2 && t.z.bcAlt == 1 && t.z.deAlt == 3 && t.z.hl == 4) = true := by
  decide

/-- 95_test_vectors.md L22 -/
theorem test_ex_sp_hl :
    after (step (zAt { z0 with sp := 0x1FEE, hl := 0xBEEF } [0xE3] [(0x1FEE, 0x03), (0x1FEF, 0x01)]))
      (fun t => t.z.hl == 0x0103 && readZ16 t 0x1FEE == 0xBEEF && t.z.wz == 0x0103 && t.z.sp == 0x1FEE) = true := by
  decide

/-- 95_test_vectors.md L23 -/
theorem test_ld_a_i :
    after (step (zAt { z0 with iff2 := true } [0xED, 0x57] [])) (fun t => t.z.af == 0x0044) = true := by
  decide

/-- 95_test_vectors.md L24 -/
theorem test_ld_a_r :
    after (step (zAt { z0 with r := 0x7F } [0xED, 0x5F] [])) (fun t => t.z.af == 0x0100) = true := by
  decide

/-- 95_test_vectors.md L25 -/
theorem test_ld_i_a :
    after (step (zAt { z0 with af := 0x1F00 } [0xED, 0x47] [])) (fun t => t.z.i == 0x1F) = true := by
  decide

/-- 95_test_vectors.md L26 -/
theorem test_ld_r_a :
    after (step (zAt { z0 with af := 0x8000 } [0xED, 0x4F] [])) (fun t => t.z.r == 0x80) = true := by
  decide

/-- 95_test_vectors.md L27 -/
theorem test_nop_z :
    after (step (zAt z0 [0x00] [])) (fun t => t.z.pc == 0x0101 && t.cycles == 4 && t.z.r == 1) = true := by
  decide

/-- 95_test_vectors.md L28 -/
theorem test_halt :
    after (step (zAt z0 [0x76] [])) (fun t => t.z.pc == 0x0101 && t.z.halted) = true := by
  decide

/-- 95_test_vectors.md L29 -/
theorem test_di :
    after (step (zAt { z0 with iff1 := true, iff2 := true } [0xF3] [])) (fun t => !t.z.iff1 && !t.z.iff2) = true := by
  decide

/-- 95_test_vectors.md L30 -/
theorem test_ei :
    after (step (zAt z0 [0xFB] [])) (fun t => t.z.iff1 && t.z.iff2 && t.z.eiDelay) = true := by
  decide

/-- 95_test_vectors.md L31 -/
theorem test_im1 :
    after (step (zAt z0 [0xED, 0x56] [])) (fun t => t.z.im == .im1) = true := by
  decide

/-! ### 68000 data movement and arithmetic (95 V-M68K-DATA) -/

/-- 95_test_vectors.md M1 -/
theorem test_move_b :
    after (step (mAt [.d 0 0x80, .d 1 0xFFFFFFFF] [0x1200] []))
      (fun t => getD t 1 == 0xFFFFFF80 && t.m.sr == 0x2708) = true := by
  decide

/-- 95_test_vectors.md M3 -/
theorem test_movea_w :
    after (step (mAt [.d 1 0x1234] [0x3441] [])) (fun t => getAn t 2 == 0x1234 && t.m.sr == 0x2700) = true := by
  decide

/-- 45 R911 -/
theorem test_movea_sext :
    after (step (mAt [] [0x307C, 0x8000] [])) (fun t => getAn t 0 == 0xFFFF8000) = true := by
  decide

/-- 95_test_vectors.md M4 -/
theorem test_moveq :
    after (step (mAt [] [0x70FF] [])) (fun t => getD t 0 == 0xFFFFFFFF && t.m.sr == 0x2708) = true := by
  decide

/-- 95_test_vectors.md M5 -/
theorem test_movem_store :
    after (step (mAt [.a 7 0xFF0100, .d 0 1, .a 0 2] [0x48E7, 0x8080] []))
      (fun t => longAt t 0xFF00FC == 2 && longAt t 0xFF00F8 == 1 && getAn t 7 == 0xFF00F8) = true := by
  decide

/-- 45 R913: a word load sign-extends every register -/
theorem test_movem_load :
    after (step (mAt [.a 7 0xFF0100, .a 3 9] [0x4C9F, 0x0803] [(0x100, 0xFF), (0x101, 0xFE), (0x103, 0x03), (0x105, 0x04)]))
      (fun t => getD t 0 == 0xFFFFFFFE && getD t 1 == 3 && getAn t 3 == 4 && getAn t 7 == 0xFF0106) = true := by
  decide

/-- 95_test_vectors.md M6 -/
theorem test_movep :
    after (step (mAt [.d 0 0x12345678, .a 0 0xFF0001] [0x01C8, 0x0000] []))
      (fun t => t.bus.wram == [(1, 0x12), (3, 0x34), (5, 0x56), (7, 0x78)]) = true := by
  decide

/-- 95_test_vectors.md M7 -/
theorem test_lea :
    after (step (mAt [.a 1 0x1000] [0x45E9, 0x0008] [])) (fun t => getAn t 2 == 0x1008) = true := by
  decide

/-- 95_test_vectors.md M8 -/
theorem test_pea :
    after (step (mAt [.a 7 0xFF0100, .a 0 0x1234] [0x4850] []))
      (fun t => longAt t 0xFF00FC == 0x1234 && getAn t 7 == 0xFF00FC) = true := by
  decide

/-- 95_test_vectors.md M9 -/
theorem test_exg_da :
    after (step (mAt [.d 1 1, .a 2 2] [0xC38A] [])) (fun t => getD t 1 == 2 && getAn t 2 == 1) = true := by
  decide

/-- 45 R917 -/
theorem test_exg_dd :
    after (step (mAt [.d 1 1, .d 2 2] [0xC342] [])) (fun t => getD t 1 == 2 && getD t 2 == 1) = true := by
  decide

/-- 45 R917 -/
theorem test_exg_aa :
    after (step (mAt [.a 1 1, .a 2 2] [0xC34A] [])) (fun t => getAn t 1 == 2 && getAn t 2 == 1) = true := by
  decide

/-- 95_test_vectors.md M10 -/
theorem test_swap :
    after (step (mAt [.d 0 0x12348765] [0x4840] [])) (fun t => getD t 0 == 0x87651234 && t.m.sr == 0x2708) = true := by
  decide

/-- 95_test_vectors.md M11 -/
theorem test_ext_w :
    after (step (mAt [.d 0 0x80] [0x4880] [])) (fun t => getD t 0 == 0xFF80 && t.m.sr == 0x2708) = true := by
  decide

/-- 95_test_vectors.md M12 -/
theorem test_clr_w :
    after (step (mAt [.d 0 0xFFFFFFFF] [0x4240] [])) (fun t => getD t 0 == 0xFFFF0000 && t.m.sr == 0x2704) = true := by
  decide

/-- 95_test_vectors.md M13 -/
theorem test_tst_w :
    after (step (mAt [.d 0 0x8000] [0x4A40] [])) (fun t => t.m.sr == 0x2708) = true := by
  decide

/-- 95_test_vectors.md M14 -/
theorem test_add_b :
    after (step (mAt [.d 0 0x7F, .d 1 1] [0xD001] [])) (fun t => getD t 0 == 0x80 && t.m.sr == 0x270A) = true := by
  decide

/-- 95_test_vectors.md M15 -/
theorem test_adda_w :
    after (step (mAt [.a 0 0x1000] [0xD0FC, 0xFFFE] [])) (fun t => getAn t 0 == 0xFFE && t.m.sr == 0x2700) = true := by
  decide

/-- 95_test_vectors.md M16 -/
theorem test_addi_w :
    after (step (mAt [.d 0 0xFFFF] [0x0640, 0x0001] [])) (fun t => getD t 0 == 0 && t.m.sr == 0x2715) = true := by
  decide

/-- 95_test_vectors.md M17 -/
theorem test_addq_b :
    after (step (mAt [.d 2 0xFF] [0x5202] [])) (fun t => getD t 2 == 0 && t.m.sr == 0x2715) = true := by
  decide

/-- 45 R933 -/
theorem test_addq_an :
    after (step (mAt [.a 0 0xFFFF] [0x5248] [])) (fun t => getAn t 0 == 0x10000 && t.m.sr == 0x2700) = true := by
  decide

/-- 95_test_vectors.md M18 -/
theorem test_addx_b :
    after (step (mAt [.d 0 0xFF, .d 1 1, .sr 0x2714] [0xD101] [])) (fun t => getD t 0 == 1 && t.m.sr == 0x2711) = true := by
  decide

/-- 95_test_vectors.md M20 -/
theorem test_sub_w :
    after (step (mAt [.d 1 1] [0x9041] [])) (fun t => getD t 0 == 0xFFFF && t.m.sr == 0x2719) = true := by
  decide

/-- 95_test_vectors.md M21 -/
theorem test_suba_l :
    after (step (mAt [.a 0 0x1000] [0x91FC, 0x0000, 0x0010] [])) (fun t => getAn t 0 == 0xFF0) = true := by
  decide

/-- 95_test_vectors.md M22 -/
theorem test_subi_b :
    after (step (mAt [.d 0 0x80] [0x0400, 0x0001] [])) (fun t => getD t 0 == 0x7F && t.m.sr == 0x2702) = true := by
  decide

/-- 95_test_vectors.md M23 -/
theorem test_subq_l :
    after (step (mAt [.d 0 0x10] [0x5380] [])) (fun t => getD t 0 == 0x0F) = true := by
  decide

/-- 95_test_vectors.md M24 -/
theorem test_subx_b :
    after (step (mAt [.sr 0x2714] [0x9101] [])) (fun t => getD t 0 == 0xFF && t.m.sr == 0x2719) = true := by
  decide

/-- 95_test_vectors.md M25 -/
theorem test_neg_l :
    after (step (mAt [.d 0 1] [0x4480] [])) (fun t => getD t 0 == 0xFFFFFFFF && t.m.sr == 0x2719) = true := by
  decide

/-- 95_test_vectors.md M26 -/
theorem test_negx_b :
    after (step (mAt [.sr 0x2714] [0x4000] [])) (fun t => getD t 0 == 0xFF && t.m.sr == 0x2719) = true := by
  decide

/-- 95_test_vectors.md M27 -/
theorem test_cmp_l :
    after (step (mAt [.d 0 5, .d 1 7, .sr 0x2710] [0xB081] [])) (fun t => t.m.sr == 0x2719) = true := by
  decide

/-- 95_test_vectors.md M28 -/
theorem test_cmpa_w :
    after (step (mAt [.a 0 0xFFFFFFFF] [0xB0FC, 0xFFFF] [])) (fun t => t.m.sr == 0x2704) = true := by
  decide

/-- 95_test_vectors.md M29 -/
theorem test_cmpi_b :
    after (step (mAt [.d 0 0x10] [0x0C00, 0x0010] [])) (fun t => t.m.sr == 0x2704) = true := by
  decide

/-- 95_test_vectors.md M30 -/
theorem test_cmpm_b :
    after (step (mAt [.a 0 0xFF0000, .a 1 0xFF0010] [0xB308] [(0, 0x41), (0x10, 0x41)]))
      (fun t => t.m.sr == 0x2704 && getAn t 0 == 0xFF0001 && getAn t 1 == 0xFF0011) = true := by
  decide

/-- 95_test_vectors.md M31 -/
theorem test_mulu :
    after (step (mAt [.d 0 0xFFFF, .d 1 0xFFFF] [0xC0C1] []))
      (fun t => getD t 0 == 0xFFFE0001 && t.m.sr == 0x2708) = true := by
  decide

/-- 95_test_vectors.md M32 -/
theorem test_muls :
    after (step (mAt [.d 0 0xFFFF, .d 1 0xFFFF] [0xC1C1] [])) (fun t => getD t 0 == 1) = true := by
  decide

/-- 95_test_vectors.md M33 -/
theorem test_divu :
    after (step (mAt [.d 0 0x10000, .d 1 2] [0x80C1] [])) (fun t => getD t 0 == 0x8000 && t.m.sr == 0x2708) = true := by
  decide

/-- 95_test_vectors.md M34 -/
theorem test_divu_overflow :
    after (step (mAt [.d 0 0x20000, .d 1 1] [0x80C1] [])) (fun t => getD t 0 == 0x20000 && t.draws == 3) = true := by
  decide

/-- 95_test_vectors.md M36 -/
theorem test_divs :
    after (step (mAt [.d 0 0xFFFFFFF9, .d 1 2] [0x81C1] []))
      (fun t => getD t 0 == 0xFFFFFFFD && t.m.sr == 0x2708) = true := by
  decide

/-- 45 R949: 0x80000000 / -1 overflows -/
theorem test_divs_overflow :
    after (step (mAt [.d 0 0x80000000, .d 1 0xFFFF] [0x81C1] []))
      (fun t => getD t 0 == 0x80000000 && t.draws == 3) = true := by
  decide

/-! ### 68000 logic, shifts, bits and decimal (95 V-M68K-LOGIC) -/

/-- 95_test_vectors.md S1 -/
theorem test_and_w :
    after (step (mAt [.d 0 0x12345678, .d 1 0xFF00] [0xC041] [])) (fun t => getD t 0 == 0x12345600) = true := by
  decide

/-- 95_test_vectors.md S2 -/
theorem test_andi_b :
    after (step (mAt [.d 0 0xF0] [0x0200, 0x000F] [])) (fun t => getD t 0 == 0 && t.m.sr == 0x2704) = true := by
  decide

/-- 95_test_vectors.md S3 -/
theorem test_or_b :
    after (step (mAt [.d 0 0x0F, .d 1 0x80] [0x8001] [])) (fun t => getD t 0 == 0x8F && t.m.sr == 0x2708) = true := by
  decide

/-- 95_test_vectors.md S4 -/
theorem test_ori_w :
    after (step (mAt [] [0x0040, 0x8000] [])) (fun t => getD t 0 == 0x8000 && t.m.sr == 0x2708) = true := by
  decide

/-- 95_test_vectors.md S5 -/
theorem test_eor_b :
    after (step (mAt [.d 0 0xFF, .d 1 0x0F] [0xB101] [])) (fun t => getD t 1 == 0xF0 && t.m.sr == 0x2708) = true := by
  decide

/-- 95_test_vectors.md S6 -/
theorem test_eori_w :
    after (step (mAt [.d 0 0xFFFF] [0x0A40, 0xFFFF] [])) (fun t => getD t 0 == 0 && t.m.sr == 0x2704) = true := by
  decide

/-- 95_test_vectors.md S7 -/
theorem test_not_b :
    after (step (mAt [.d 0 0xFF] [0x4600] [])) (fun t => getD t 0 == 0 && t.m.sr == 0x2704) = true := by
  decide

/-- 95_test_vectors.md S8 -/
theorem test_andi_ccr :
    after (step (mAt [.sr 0x271F] [0x023C, 0x0004] [])) (fun t => t.m.sr == 0x2704) = true := by
  decide

/-- 95_test_vectors.md S9 -/
theorem test_ori_ccr :
    after (step (mAt [] [0x003C, 0x0001] [])) (fun t => t.m.sr == 0x2701) = true := by
  decide

/-- 95_test_vectors.md S10 -/
theorem test_eori_ccr :
    after (step (mAt [.sr 0x2710] [0x0A3C, 0x0011] [])) (fun t => t.m.sr == 0x2701) = true := by
  decide

/-- 95_test_vectors.md S11 -/
theorem test_andi_sr :
    after (step (mAt [.osp 0xFE0000] [0x027C, 0xDFFF] [])) (fun t => t.m.sr == 0x0700 && getAn t 7 == 0xFE0000) = true := by
  decide

/-- 95_test_vectors.md S12 -/
theorem test_ori_sr :
    after (step (mAt [.sr 0x2000] [0x007C, 0x0700] [])) (fun t => t.m.sr == 0x2700) = true := by
  decide

/-- 95_test_vectors.md S13 -/
theorem test_eori_sr :
    after (step (mAt [.sr 0x2704] [0x0A7C, 0x0004] [])) (fun t => t.m.sr == 0x2700) = true := by
  decide

/-- 95_test_vectors.md S14 -/
theorem test_ori_sr_user :
    after (step (mAt [.sr 0x0000, .osp 0xFF0100] [0x007C, 0x0700] []))
      (fun t => t.m.sr == 0x2000 && longAt t 0xFF00FC == 0x1000 && t.m.pc == 0x2020) = true := by
  decide

/-- 95_test_vectors.md S15 -/
theorem test_asl_b :
    after (step (mAt [.d 0 0x40] [0xE300] [])) (fun t => getD t 0 == 0x80 && t.m.sr == 0x270A) = true := by
  decide

/-- 95_test_vectors.md S16 -/
theorem test_asl_b2 :
    after (step (mAt [.d 0 0x40] [0xE500] [])) (fun t => getD t 0 == 0 && t.m.sr == 0x2717) = true := by
  decide

/-- 95_test_vectors.md S17 -/
theorem test_asr_w :
    after (step (mAt [.d 0 0x8000] [0xE840] [])) (fun t => getD t 0 == 0xF800 && t.m.sr == 0x2708) = true := by
  decide

/-- 95_test_vectors.md S18 -/
theorem test_lsl_l :
    after (step (mAt [.d 0 0x12345678] [0xE188] [])) (fun t => getD t 0 == 0x34567800 && t.m.sr == 0x2700) = true := by
  decide

/-- 95_test_vectors.md S19 -/
theorem test_lsl_32 :
    after (step (mAt [.d 0 0x80000001, .d 1 32] [0xE3A8] [])) (fun t => getD t 0 == 0 && t.m.sr == 0x2715) = true := by
  decide

/-- 95_test_vectors.md S22 -/
theorem test_lsr_b :
    after (step (mAt [.d 0 1] [0xE208] [])) (fun t => getD t 0 == 0 && t.m.sr == 0x2715) = true := by
  decide

/-- 95_test_vectors.md S23 -/
theorem test_rol_w :
    after (step (mAt [.d 0 0x1234, .sr 0x2710] [0xE958] [])) (fun t => getD t 0 == 0x2341 && t.m.sr == 0x2711) = true := by
  decide

/-- 95_test_vectors.md S24 -/
theorem test_ror_b :
    after (step (mAt [.d 0 1] [0xE218] [])) (fun t => getD t 0 == 0x80 && t.m.sr == 0x2709) = true := by
  decide

/-- 95_test_vectors.md S25 -/
theorem test_roxl_b :
    after (step (mAt [.d 0 0x80] [0xE310] [])) (fun t => getD t 0 == 0 && t.m.sr == 0x2715) = true := by
  decide

/-- 95_test_vectors.md S26 -/
theorem test_roxl_0 :
    after (step (mAt [.d 0 0x55, .sr 0x2710] [0xE330] [])) (fun t => getD t 0 == 0x55 && t.m.sr == 0x2711) = true := by
  decide

/-- 95_test_vectors.md S27 -/
theorem test_roxr_b :
    after (step (mAt [.sr 0x2710] [0xE210] [])) (fun t => getD t 0 == 0x80 && t.m.sr == 0x2708) = true := by
  decide

/-- 95_test_vectors.md S28 -/
theorem test_roxr_33 :
    after (step (mAt [.d 0 0x12345678, .d 1 33] [0xE2B0] []))
      (fun t => getD t 0 == 0x12345678 && t.m.sr == 0x2700) = true := by
  decide

/-- 46 R1003 -/
theorem test_asl_mem :
    after (step (mAt [.a 0 0xFF0000, .sr 0x2710] [0xE1D0] [(0, 0x80), (1, 0x01)]))
      (fun t => wordAt t 0xFF0000 == 0x0002) = true := by
  decide

/-- 46 R1003 -/
theorem test_lsl_mem :
    after (step (mAt [.a 0 0xFF0000, .sr 0x2710] [0xE3D0] [(0, 0x80), (1, 0x01)]))
      (fun t => wordAt t 0xFF0000 == 0x0002) = true := by
  decide

/-- 46 R1003 -/
theorem test_rol_mem :
    after (step (mAt [.a 0 0xFF0000, .sr 0x2710] [0xE7D0] [(0, 0x80), (1, 0x01)]))
      (fun t => wordAt t 0xFF0000 == 0x0003) = true := by
  decide

/-- 46 R1003 -/
theorem test_roxl_mem :
    after (step (mAt [.a 0 0xFF0000, .sr 0x2710] [0xE5D0] [(0, 0x80), (1, 0x01)]))
      (fun t => wordAt t 0xFF0000 == 0x0003) = true := by
  decide

/-- 46 R1003 -/
theorem test_asr_mem :
    after (step (mAt [.a 0 0xFF0000] [0xE0D0] [(0, 0x80), (1, 0x01)]))
      (fun t => wordAt t 0xFF0000 == 0xC000 && srC t.m.sr) = true := by
  decide

/-- 46 R1003 -/
theorem test_lsr_mem :
    after (step (mAt [.a 0 0xFF0000] [0xE2D0] [(0, 0x80), (1, 0x01)]))
      (fun t => wordAt t 0xFF0000 == 0x4000 && srC t.m.sr) = true := by
  decide

/-- 46 R1003 -/
theorem test_ror_mem :
    after (step (mAt [.a 0 0xFF0000] [0xE6D0] [(0, 0x80), (1, 0x01)]))
      (fun t => wordAt t 0xFF0000 == 0xC000 && srC t.m.sr) = true := by
  decide

/-- 46 R1003 -/
theorem test_roxr_mem :
    after (step (mAt [.a 0 0xFF0000] [0xE4D0] [(0, 0x80), (1, 0x01)]))
      (fun t => wordAt t 0xFF0000 == 0x4000 && srC t.m.sr) = true := by
  decide

/-- 95_test_vectors.md S29 -/
theorem test_btst_n :
    after (step (mAt [.d 0 0x80000000, .sr 0x2704] [0x0800, 0x001F] [])) (fun t => t.m.sr == 0x2700) = true := by
  decide

/-- 95_test_vectors.md S30 -/
theorem test_btst_d :
    after (step (mAt [.d 0 2, .d 1 33, .sr 0x2704] [0x0300] [])) (fun t => t.m.sr == 0x2700) = true := by
  decide

/-- 95_test_vectors.md S31 -/
theorem test_bchg_n :
    after (step (mAt [] [0x0840, 0x0000] [])) (fun t => getD t 0 == 1 && t.m.sr == 0x2704) = true := by
  decide

/-- 95_test_vectors.md S32 -/
theorem test_bclr_d :
    after (step (mAt [.d 0 0xFF, .d 1 7] [0x0380] [])) (fun t => getD t 0 == 0x7F && t.m.sr == 0x2700) = true := by
  decide

/-- 95_test_vectors.md S34 -/
theorem test_bset_n :
    after (step (mAt [.a 0 0xFF0000] [0x08D0, 0x0009] []))
      (fun t => t.bus.wram == [(0, 0x02)] && t.m.sr == 0x2704) = true := by
  decide

/-- 95_test_vectors.md S35 -/
theorem test_abcd :
    after (step (mAt [.d 0 0x45, .d 1 0x38] [0xC101] [])) (fun t => getD t 0 == 0x83) = true := by
  decide

/-- 95_test_vectors.md S36 -/
theorem test_abcd_carry :
    after (step (mAt [.d 0 0x99, .d 1 0x01, .sr 0x2704] [0xC101] [])) (fun t => getD t 0 == 0 && t.draws == 3) = true := by
  decide

/-- 95_test_vectors.md S37 -/
theorem test_sbcd :
    after (step (mAt [.d 0 0x10, .d 1 0x01] [0x8101] [])) (fun t => getD t 0 == 0x09) = true := by
  decide

/-- 95_test_vectors.md S38 -/
theorem test_nbcd :
    after (step (mAt [.d 0 0x25] [0x4800] [])) (fun t => getD t 0 == 0x75) = true := by
  decide

/-- 95_test_vectors.md S39 -/
theorem test_scc :
    after (step (mAt [.sr 0x2704] [0x57C0] [])) (fun t => getD t 0 == 0xFF) = true := by
  decide

/-- 95_test_vectors.md S40 -/
theorem test_tas :
    after (step (mAt [.a 0 0xFF0000] [0x4AD0] [])) (fun t => t.bus.wram == [(0, 0x80)] && t.m.sr == 0x2704) = true := by
  decide

/-! ### 68000 control and system (95 V-M68K-CTL) -/

/-- 95_test_vectors.md P1 -/
theorem test_bra :
    after (step (mAt [] [0x6006] [])) (fun t => t.m.pc == 0x1008) = true := by
  decide

/-- 95_test_vectors.md P2 -/
theorem test_bra_w :
    after (step (mAt [] [0x6000, 0xFFFE] [])) (fun t => t.m.pc == 0x1000) = true := by
  decide

/-- 95_test_vectors.md P3 -/
theorem test_bsr :
    after (step (mAt [.a 7 0xFF0100] [0x6100, 0x0100] []))
      (fun t => longAt t 0xFF00FC == 0x1004 && getAn t 7 == 0xFF00FC && t.m.pc == 0x1102) = true := by
  decide

/-- 95_test_vectors.md P4 -/
theorem test_beq :
    after (step (mAt [.sr 0x2704] [0x6704] [])) (fun t => t.m.pc == 0x1006) = true := by
  decide

/-- 47 R1112 -/
theorem test_beq_untaken :
    after (step (mAt [] [0x6704] [])) (fun t => t.m.pc == 0x1002) = true := by
  decide

/-- 95_test_vectors.md P5 -/
theorem test_dbf :
    after (step (mAt [.d 0 0x10000] [0x51C8, 0xFFFE] [])) (fun t => getD t 0 == 0x1FFFF && t.m.pc == 0x1004) = true := by
  decide

/-- 95_test_vectors.md P6 -/
theorem test_jmp :
    after (step (mAt [.a 0 0x2000] [0x4ED0] [])) (fun t => t.m.pc == 0x2000) = true := by
  decide

/-- 95_test_vectors.md P7 -/
theorem test_jsr :
    after (step (mAt [.a 7 0xFF0100] [0x4EB8, 0x2000] []))
      (fun t => longAt t 0xFF00FC == 0x1004 && t.m.pc == 0x2000) = true := by
  decide

/-- 95_test_vectors.md P8 -/
theorem test_rts :
    after (step (mAt [.a 7 0xFF00FC] [0x4E75] [(0xFE, 0x10), (0xFF, 0x04)]))
      (fun t => t.m.pc == 0x1004 && getAn t 7 == 0xFF0100) = true := by
  decide

/-- 95_test_vectors.md P9 -/
theorem test_rtr :
    after (step (mAt [.a 7 0xFF0000] [0x4E77] [(1, 0x1F), (4, 0x10)]))
      (fun t => t.m.sr == 0x271F && t.m.pc == 0x1000 && getAn t 7 == 0xFF0006) = true := by
  decide

/-- 95_test_vectors.md P10 -/
theorem test_rte :
    after (step (mAt [.a 7 0xFF0000, .osp 0xFE0000] [0x4E73] [(4, 0x10)]))
      (fun t => t.m.sr == 0 && t.m.pc == 0x1000 && getAn t 7 == 0xFE0000 && t.m.otherSP == 0xFF0006) = true := by
  decide

/-- 95_test_vectors.md P11 -/
theorem test_link :
    after (step (mAt [.a 7 0xFF0100, .a 6 0x12345678] [0x4E56, 0xFFF8] []))
      (fun t => longAt t 0xFF00FC == 0x12345678 && getAn t 6 == 0xFF00FC && getAn t 7 == 0xFF00F4) = true := by
  decide

/-- 47 R1119 -/
theorem test_link_a7 :
    after (step (mAt [.a 7 0xFF0100] [0x4E57, 0x0000] [])) (fun t => longAt t 0xFF00FC == 0xFF00FC) = true := by
  decide

/-- 95_test_vectors.md P12 -/
theorem test_unlk :
    after (step (mAt [.a 6 0xFF00FC] [0x4E5E] [(0xFC, 0x12), (0xFD, 0x34), (0xFE, 0x56), (0xFF, 0x78)]))
      (fun t => getAn t 7 == 0xFF0100 && getAn t 6 == 0x12345678) = true := by
  decide

/-- 95_test_vectors.md P13 -/
theorem test_trap :
    after (step (mAt [.a 7 0xFF0100] [0x4E41] []))
      (fun t => longAt t 0xFF00FC == 0x1002 && wordAt t 0xFF00FA == 0x2700 && t.m.pc == 0x2084) = true := by
  decide

/-- 95_test_vectors.md P15 -/
theorem test_trapv :
    after (step (mAt [.a 7 0xFF0100, .sr 0x2702] [0x4E76] []))
      (fun t => longAt t 0xFF00FC == 0x1002 && t.m.pc == 0x201C) = true := by
  decide

/-- 47 R1132 -/
theorem test_chk_inside :
    after (step (mAt [.d 0 4] [0x41BC, 0x0004] [])) (fun t => t.m.pc == 0x1004) = true := by
  decide

/-- 95_test_vectors.md P17 -/
theorem test_illegal :
    after (step (mAt [.a 7 0xFF0100] [0x4AFC] [])) (fun t => longAt t 0xFF00FC == 0x1000 && t.m.pc == 0x2010) = true := by
  decide

/-- 95_test_vectors.md P18 -/
theorem test_line_a :
    after (step (mAt [.a 7 0xFF0100] [0xA123] [])) (fun t => longAt t 0xFF00FC == 0x1000 && t.m.pc == 0x2028) = true := by
  decide

/-- 95_test_vectors.md P19 -/
theorem test_line_f :
    after (step (mAt [.a 7 0xFF0100] [0xFFFF] [])) (fun t => longAt t 0xFF00FC == 0x1000 && t.m.pc == 0x202C) = true := by
  decide

/-- 95_test_vectors.md P20 -/
theorem test_move_ccr :
    after (step (mAt [] [0x44FC, 0x0004] [])) (fun t => t.m.sr == 0x2704) = true := by
  decide

/-- 95_test_vectors.md P21 -/
theorem test_move_sr :
    after (step (mAt [] [0x46FC, 0x2000] [])) (fun t => t.m.sr == 0x2000) = true := by
  decide

/-- 95_test_vectors.md P22 -/
theorem test_move_sr_mask :
    after (step (mAt [] [0x46FC, 0xFFFF] [])) (fun t => t.m.sr == 0xA71F) = true := by
  decide

/-- 95_test_vectors.md P23 -/
theorem test_move_from_sr :
    after (step (mAt [.sr 0x2704] [0x40C0] [])) (fun t => getD t 0 == 0x2704) = true := by
  decide

/-- 95_test_vectors.md P24 -/
theorem test_move_usp :
    after (step (mAt [.a 0 0xFE0000] [0x4E60] [])) (fun t => t.m.otherSP == 0xFE0000) = true := by
  decide

/-- 47 R1143 -/
theorem test_move_from_usp :
    after (step (mAt [.osp 0xFE0000] [0x4E68] [])) (fun t => getAn t 0 == 0xFE0000) = true := by
  decide

/-- 95_test_vectors.md P25 -/
theorem test_stop :
    after (step (mAt [] [0x4E72, 0x2000] [])) (fun t => t.m.sr == 0x2000 && t.m.stopped && t.m.pc == 0x1004) = true := by
  decide

/-- 95_test_vectors.md P26 -/
theorem test_reset_event :
    after (step (mAt [] [0x4E70] [])) (fun t => t.m.pc == 0x1002 && t.events == [.resetOut]) = true := by
  decide

/-- 95_test_vectors.md P27 -/
theorem test_nop_m :
    after (step (mAt [] [0x4E71] [])) (fun t => t.m.pc == 0x1002) = true := by
  decide

/-! ### Witnesses: a state and operands that meet the hypotheses of each statement, clause by clause -/

/-- The state after reset with two data registers, A0 and SR set. -/
def wit (d0 d1 a0 : Long) (sr : Word) : State :=
  { State.reset with m := { State.reset.m with
    d := (State.reset.m.d.set 0 d0).set 1 d1, a := State.reset.m.a.set 0 a0, sr := sr } }

section Witnesses

open Sys2Proof.Claims

/-- A register, an even memory word and long, an odd memory byte: the reachable operands of `M68kMoves`, `M68kAddSubAll`, `M68kLogic`,
`M68kCompare`, `M68kShifts`, `M68kBitsAndBytes`, `M68kConditionCodes`. -/
theorem test_witness_operands :
    (locOf State.reset .l 2 (.dreg 0)).reachable .l = true ∧ (locOf State.reset .w 2 (.ind 0)).reachable .w = true ∧
      (locOf (wit 0 0 1 0) .b 2 (.postInc 0)).reachable .b = true ∧
      (locOf (sideOf State.reset .l 2 (.postInc 0)) .l 2 (.preDec 1)).reachable .l = true ∧
      (locOf (sideOf State.reset .w 0 (.postInc 0)) .w 0 (.postInc 1)).reachable .w = true := by decide

theorem test_witness_addq : (Ea.ind 0).isAreg = false ∧ ∀ r, Ea.ind 0 ≠ .dreg r := by
  exact ⟨rfl, fun _ h => by cases h⟩

theorem test_witness_pre :
    (locOf State.reset .l 0 (.preDec 0)).reachable .l = true ∧
      (locOf (sideOf State.reset .l 0 (.preDec 0)) .l 0 (.preDec 0)).reachable .l = true := by decide

theorem test_witness_movem :
    (Loc.mem (State.reset.m.a[0])).reachable .l = true ∧ (Ea.ind 0).isCtrl = true ∧
      locOf State.reset .l 4 (.ind 0) = .mem 0 ∧ (Loc.mem 0).reachable .l = true ∧
      (Ea.postInc 0).isCtrlPi = true ∧ locOf State.reset .w 4 (.postInc 0) = .mem 0 := by decide

theorem test_witness_addresses :
    (Ea.pcDisp 6).isCtrl = true ∧ locOf State.reset .l 2 (.pcDisp 6) = .mem 8 ∧ isEven State.reset.m.a[7] = true := by decide

/-- The value a division reads and its dividend. -/
def witDiv (s : State) : Word × Long :=
  (((locOf s .w (s.m.pc0 + 2) (.dreg 1)).value (sideOf s .w (s.m.pc0 + 2) (.dreg 1)) .w).extractLsb' 0 16, s.m.d[0])

theorem test_witness_divide_reachable :
    (locOf (wit 7 2 0 0x2700) .w 2 (.dreg 1)).reachable .w = true := by decide

theorem test_witness_divide_fits :
    (let p := witDiv (wit 7 2 0 0x2700)
     p.1 ≠ 0 ∧ p.2.toNat / p.1.toNat ≤ 0xFFFF ∧ -32768 ≤ p.2.toInt.tdiv p.1.toInt ∧ p.2.toInt.tdiv p.1.toInt ≤ 32767) := by
  decide

theorem test_witness_divide_overflows :
    (let p := witDiv (wit 0x80000000 1 0 0x2700)
     p.1 ≠ 0 ∧ p.2.toNat / p.1.toNat > 0xFFFF ∧ p.2.toInt.tdiv p.1.toInt < -32768) ∧
    (let p := witDiv (wit 0x8000 1 0 0x2700)
     p.1 ≠ 0 ∧ p.2.toInt.tdiv p.1.toInt > 32767) := by decide

theorem test_witness_divide_zero :
    (witDiv (wit 7 0 0 0x2700)).1 = 0 ∧
      isEven (supervisorSp (sideOf (wit 7 0 0 0x2700) .w 2 (.dreg 1))) = true := by decide

theorem test_witness_chk :
    (locOf (wit 5 4 0 0) .w 2 (.dreg 1)).reachable .w = true ∧
      isEven (supervisorSp (sideOf (wit 5 4 0 0) .w 2 (.dreg 1))) = true ∧
      (0 ≤ ((4 : Long).extractLsb' 0 16 : Word).toInt ∧
        ((4 : Long).extractLsb' 0 16 : Word).toInt ≤ ((witDiv (wit 4 4 0 0)).1 : Word).toInt) ∧
      ((0xFFFF : Long).extractLsb' 0 16 : Word).toInt < 0 ∧
      ((witDiv (wit 5 4 0 0)).1 : Word).toInt < ((5 : Long).extractLsb' 0 16 : Word).toInt := by decide

theorem test_witness_traps :
    (State.reset.m.sr.getLsbD 1 = false ∧ isEven (supervisorSp State.reset) = true) ∧
      (wit 0 0 0 0x0002).m.sr.getLsbD 1 = true ∧ isEven (supervisorSp (wit 0 0 0 0x0002)) = true := by decide

theorem test_witness_returns : isEven State.reset.m.a[7] = true ∧ isEven State.reset.m.a[0] = true := by decide

theorem test_witness_supervisor :
    State.reset.m.sr.getLsbD 13 = true ∧ (locOf State.reset .w 2 (.imm 0x2000)).reachable .w = true ∧
      isEven State.reset.m.a[7] = true := by decide

theorem test_witness_user : (wit 0 0 0 0).m.sr.getLsbD 13 = false ∧ isEven (wit 0 0 0 0).m.otherSP = true := by decide

theorem test_witness_zcond :
    zcond State.reset .nz = true ∧ zcond State.reset .z = false ∧ zcond State.reset .po = true ∧ zcond State.reset .m = false := by
  decide

theorem test_witness_map :
    (0x3FFFFF#24).toNat < 0x400000 ∧ (0x400000 ≤ (0x400000#24).toNat ∧ (0x9FFFFF#24).toNat < 0xA00000) ∧
      (0xA00000 ≤ (0xA00000#24).toNat ∧ (0xA0FFFF#24).toNat < 0xA10000) ∧
      (0xA10000 ≤ (0xA10002#24).toNat ∧ (0xFEFFFF#24).toNat < 0xFF0000) ∧ 0xFF0000 ≤ (0xFF0000#24).toNat ∧
      (0x1FFF#16).toNat < 0x2000 ∧ 0x2000 ≤ (0x2000#16).toNat := by decide

theorem test_witness_spaces :
    (0x9FFFFF#24).toNat < 0xA00000 ∧ (0xA02000 ≤ (0xA02000#24).toNat ∧ (0xFEFFFF#24).toNat < 0xFF0000) ∧
      (0xFF9FFFFC#32).toNat % 2 ^ 24 < 0xA00000 - 3 ∧
      (0xA02000 ≤ (0x00FEFFFC#32).toNat % 2 ^ 24 ∧ (0x00FEFFFC#32).toNat % 2 ^ 24 < 0xFF0000 - 3) ∧
      (Size.b = .b ∨ isEven 0x00FEFFFD = true) ∧ (Size.l = .b ∨ isEven 0x00FEFFFC = true) := by decide

theorem test_witness_alignment : isEven 0x1000 = true ∧ isEven 0x1001 = false ∧ Size.w ≠ .b := by decide

theorem test_witness_ram :
    Bus.wf State.reset.bus = true ∧ (0x1FFE#16).toNat + 1 < 0x2000 ∧
      (0xFFA01FFE#32).toNat % 2 ^ 24 = 0xA00000 + (0x1FFE#16).toNat ∧
      ∀ j < Size.l.bytes, (0xFF0004#24) ≠ (0x00FF0000#32).extractLsb' 0 24 + BitVec.ofNat 24 j := by decide

theorem test_witness_modes : State.reset.m.sr.getLsbD 13 = true ∧ (wit 0 0 0 0).m.sr.getLsbD 13 = false := by decide

theorem test_witness_exceptions :
    (0x20 : Nat) % 4 = 0 ∧ isEven (supervisorSp State.reset) = true ∧
      isEven (supervisorSp { State.reset with m := { State.reset.m with a := State.reset.m.a.set 7 0x00FF0001 } }) = false := by
  decide

theorem test_witness_vectors : (1 ≤ 7 ∧ 7 ≤ 7) ∧ (0 < 1 ∨ 0 > 7) ∧ (1 ≤ 15 ∧ 15 ≤ 15) ∧ (16 < 1 ∨ 16 > 15) := by decide

theorem test_witness_round_trip :
    ((Instr.bitIyd 7 0x80).cpu = .z80 ∧ (Instr.bitIyd 7 0x80).wf = true) ∧
      ((Instr.moveL (.index 3 ⟨true, 7, true⟩ 0x80) (.absL 0x00FF0000)).cpu = .m68k ∧
        (Instr.moveL (.index 3 ⟨true, 7, true⟩ 0x80) (.absL 0x00FF0000)).wf = true) := by decide

theorem test_witness_decoded : decode .m68k [0x4E, 0x71] = .ok .nopM 2 ∧ decode .z80 [0x00] = .ok .nopZ 1 := by
  exact ⟨rfl, rfl⟩

theorem test_witness_reset_calls :
    State.reset.bus.rom ≠ none ∧ ({ State.reset.bus with rom := none } : Bus).rom = none := by decide

theorem test_witness_step_goes_on : State.reset.wf = true ∧ ∃ t, step State.reset = .next t := ⟨by decide, _, rfl⟩

theorem test_witness_step_z80 :
    (let s := { State.reset with host := { State.reset.host with turn := .z80 } }
     s.host.script = [] ∧ s.host.turn = .z80 ∧ s.z.faulted = none ∧ s.z.nmiPending = false ∧
      (s.host.z80Int && s.z.iff1 && !s.z.eiDelay) = false ∧ s.z.halted = false ∧
      decodeZ80 [Bus.readZ s.bus 0, Bus.readZ s.bus 1, Bus.readZ s.bus 2, Bus.readZ s.bus 3] = .ok .nopZ 1) ∧
    ∃ t, exec .nopZ State.reset = .next t := ⟨by decide, _, rfl⟩

theorem test_witness_step_m68k :
    (let s := State.reset
     s.host.script = [] ∧ s.host.turn = .m68k ∧ s.m.faulted = none ∧ s.m.nmi7Pending = false ∧
      s.host.ipl.val ≤ (s.m.sr.extractLsb' 8 3).toNat ∧ s.m.stopped = false ∧ isEven s.m.pc = true) ∧
      (wit 0 0 0 0xA700).m.sr.getLsbD 15 = true ∧ isEven (supervisorSp (wit 0 0 0 0xA700)) = true ∧
      isEven (supervisorSp (withA7 (wit 0 0 0 0xA700) 1)) = false := by decide

theorem test_witness_step_m68k_words :
    (∀ k : Fin 10, Bus.readM State.reset.bus (BitVec.ofNat 24 k.val) = 0) ∧
      decodeWords [0, 0, 0, 0, 0] = .ok (.oriEa .b 0 (.dreg 0)) 4 := ⟨by decide, by decide⟩

theorem test_witness_step_m68k_fault : exec (.trap 15) State.reset = .fault (.invalidParameter .trap 16) := rfl

theorem test_witness_stops :
    decodeZ80 [0xED, 0x00, 0x00, 0x00] = .unknown .ed 0 ∧ decodeWords [0x4AFB, 0, 0, 0, 0] = .unknown .m68k 0x4AFB ∧
      ({ State.reset.m with faulted := some .noImage } : M68k).faulted = some .noImage ∧
      ({ State.reset.z with faulted := some (.im0DataNotRst 0) } : Z80).faulted = some (.im0DataNotRst 0) ∧
      isEven 0x1001 = false := by
  exact ⟨rfl, rfl, rfl, rfl, rfl⟩

/-- An odd operand of every mode of memory, at the source and, after an even one, at the destination. -/
theorem test_witness_misaligned_operands :
    (locOf (wit 0 0 1 0) .w 2 (.ind 0) = .mem 1 ∧ (Loc.mem 1).reachable .w = false) ∧
      ((locOf State.reset .l 2 (.ind 1)).reachable .l = true ∧
        locOf (sideOf (wit 0 0 1 0) .l 2 (.ind 1)) .l 2 (.ind 0) = .mem 1 ∧ (Loc.mem 1).reachable .l = false) ∧
      (locOf (wit 0 0 5 0) .l 0 (.preDec 0) = .mem 1 ∧ locOf (wit 0 0 1 0) .l 0 (.postInc 0) = .mem 1) ∧
      (wit 0 0 1 0x2000).m.sr.getLsbD 13 = true := by decide

theorem test_witness_misaligned_stacks :
    ((0x8000 : Word) ≠ 0 ∧ (Loc.mem (wit 0 0 1 0).m.a[0]).reachable .w = false ∧ (Ea.ind 0).isCtrl = true ∧
        (Ea.postInc 0).isCtrlPi = true ∧ locOf (wit 0 0 1 0) .w 4 (.ind 0) = .mem 1 ∧
        locOf (wit 0 0 1 0) .w 4 (.postInc 0) = .mem 1) ∧
      (isEven (withA7 State.reset 1).m.a[7] = false ∧ (withA7 State.reset 1).m.sr.getLsbD 13 = true) ∧
      isEven (wit 0 0 1 0).m.a[0] = false ∧
      (let s := withA7 (wit 0 0xFFFF 0 0x2702) 1
       isEven (supervisorSp s) = false ∧ (14 : Fin 16).val < 15 ∧ s.m.sr.getLsbD 1 = true ∧
        (locOf s .w 2 (.dreg 0)).reachable .w = true ∧ isEven (supervisorSp (sideOf s .w 2 (.dreg 0))) = false ∧
        ((locOf s .w 2 (.dreg 0)).value s .w).extractLsb' 0 16 = (0 : Word) ∧
        (s.m.d[1].extractLsb' 0 16 : Word).toInt < 0) ∧
      (let s := { wit 1 0 0 0 with m := { (wit 1 0 0 0).m with otherSP := 1 } }
       s.m.sr.getLsbD 13 = false ∧ isEven (supervisorSp s) = false ∧
        (((locOf s .w 2 (.dreg 1)).value s .w).extractLsb' 0 16 : Word).toInt < (s.m.d[0].extractLsb' 0 16 : Word).toInt) := by
  decide

theorem test_witness_stores :
    Instr.nopM.cpu = .m68k ∧ exec .nopM State.reset = .next State.reset ∧ (0xFF0000#24) ∉ storesOf .nopM State.reset ∧
      storesOf (.moveW (.dreg 0) (.ind 0)) (wit 0 0 0xFF0001 0) = [0xFF0001, 0xFF0002] := by
  exact ⟨rfl, rfl, by decide, by decide⟩

/-- One state for each case of `Z80Interrupts`: NMI, a request in each mode, a byte that is an RST and one that is none, idle. -/
theorem test_witness_interrupts_z80 :
    ({ State.reset.z with nmiPending := true } : Z80).nmiPending = true ∧
    (let s := { State.reset with z := { State.reset.z with iff1 := true }, host := { State.reset.host with z80Int := true } }
     s.z.faulted = none ∧ s.z.nmiPending = false ∧ (s.host.z80Int && s.z.iff1 && !s.z.eiDelay) = true ∧ s.z.im = .im0 ∧
      s.host.z80IntData &&& 0xC7 = 0xC7 ∧ (0x00 : Byte) &&& 0xC7 ≠ 0xC7) ∧
    ({ State.reset.z with im := .im1 } : Z80).im = .im1 ∧ ({ State.reset.z with im := .im2 } : Z80).im = .im2 ∧
    ({ State.reset.z with halted := true } : Z80).halted = true := by decide

theorem test_witness_interrupts_m68k :
    (let s := { wit 0 0 0 0x2000 with host := { State.reset.host with ipl := 6 } }
     s.m.faulted = none ∧ isEven (supervisorSp s) = true ∧ isEven (supervisorSp (withA7 s 1)) = false ∧
      s.host.ipl.val > (s.m.sr.extractLsb' 8 3).toNat) ∧
    (let s := { State.reset with m := { State.reset.m with nmi7Pending := true, stopped := true } }
     s.m.faulted = none ∧ isEven (supervisorSp s) = true ∧ s.host.ipl.val ≤ (s.m.sr.extractLsb' 8 3).toNat ∧
      s.m.nmi7Pending = true ∧ s.m.stopped = true) := by decide

theorem test_witness_host :
    State.reset.host.script = [] ∧
      ({ State.reset.host with script := [⟨[], .execute .z80⟩] } : HostSide).script = ⟨[], .execute .z80⟩ :: [] := by decide

theorem test_witness_user_mode :
    ∃ t, (Instr.moveq 1 0).cpu = .m68k ∧ (wit 0 0 0 0).m.sr.getLsbD 13 = false ∧
      exec (.moveq 1 0) (wit 0 0 0 0) = .next t ∧ t.m.sr.getLsbD 13 = false := ⟨_, rfl, rfl, rfl, rfl⟩

theorem test_witness_isolation :
    Instr.nopZ.cpu = .z80 ∧ Instr.nopM.cpu = .m68k ∧ exec .nopM State.reset = .next State.reset := ⟨rfl, rfl, rfl⟩

end Witnesses

end Sys2Proof.Tests
end

section
/-! PROOFS. The mode changes case by case (10_state.md R69): the mode already entered, and the other one. -/

namespace Sys2Proof.Machine

/-- The state of a mode change (10_state.md R69): A7 and `otherSP` exchanged and SR written, every other field kept. -/
theorem setSr_swapStacks (s : State) (sr : Word) :
    setSr (swapStacks s) sr =
      { s with m := { s.m with a := s.m.a.set 7 s.m.otherSP, otherSP := s.m.a[7], sr := sr } } := rfl

theorem enterSupervisorMode_of_supervisor {s : State} (h : supervisor s = true) : enterSupervisorMode s = s :=
  if_pos h

theorem enterSupervisorMode_of_user {s : State} (h : supervisor s = false) :
    enterSupervisorMode s = setSr (swapStacks s) (s.m.sr ||| 0x2000) :=
  if_neg (ne_true_of_eq_false h)

theorem enterUserMode_of_supervisor {s : State} (h : supervisor s = true) :
    enterUserMode s = setSr (swapStacks s) (s.m.sr &&& 0xDFFF) :=
  if_pos h

theorem enterUserMode_of_user {s : State} (h : supervisor s = false) : enterUserMode s = s :=
  if_neg (ne_true_of_eq_false h)

/-- Settles O43: in each mode, the entry to that mode is the identity and the entry to the other one is the exchange. -/
theorem modeSwap : Obligations.ModeSwap := by
  intro s
  dsimp only
  cases h : s.m.sr.getLsbD 13 with
  | false =>
    have hexchange := (enterSupervisorMode_of_user h).trans (setSr_swapStacks s _)
    exact ⟨hexchange, enterUserMode_of_user h⟩
  | true =>
    have hexchange := (enterUserMode_of_supervisor h).trans (setSr_swapStacks s _)
    exact ⟨enterSupervisorMode_of_supervisor h, hexchange⟩

end Sys2Proof.Machine
end

section
/-! PROOFS. The Z80's space, the writes that ROM and the stubs discard, and the 68000's byte access (20_memory.md R155, R158,
R160): a write is discarded where no RAM backs the address, a word or a long byte by byte. -/

namespace Sys2Proof.Machine

/-! ### The Z80's space on each side of 0x2000 -/

theorem Bus.readZ_of_ram (b : Bus) {k : Word} (h : k.toNat < 0x2000) : Bus.readZ b k = Memory.read b.zram k.toNat :=
  if_pos h

theorem Bus.readZ_of_stub (b : Bus) {k : Word} (h : 0x2000 ≤ k.toNat) : Bus.readZ b k = 0 :=
  if_neg (Nat.not_lt.mpr h)

theorem Bus.writeZ_of_ram (b : Bus) {k : Word} (v : Byte) (h : k.toNat < 0x2000) :
    Bus.writeZ b k v = { b with zram := Memory.write b.zram k.toNat v } :=
  if_pos h

theorem Bus.writeZ_of_stub (b : Bus) {k : Word} (v : Byte) (h : 0x2000 ≤ k.toNat) : Bus.writeZ b k v = b :=
  if_neg (Nat.not_lt.mpr h)

/-! ### Writes where no RAM backs the address -/

theorem ramAt_eq_false_iff (a : BitVec 24) :
    ramAt a = false ↔ a.toNat < 0xA00000 ∨ (0xA02000 ≤ a.toNat ∧ a.toNat < 0xFF0000) := by
  simp only [ramAt, Bool.or_eq_false_iff, Bool.and_eq_false_iff, decide_eq_false_iff_not]
  omega

/-- The window's part above 0x2000 discards as the Z80's stub, every other such range by itself (R155, R157, R158). -/
theorem Bus.writeM_of_not_ramAt (b : Bus) {a : BitVec 24} (v : Byte) (h : ramAt a = false) : Bus.writeM b a v = b := by
  rw [ramAt_eq_false_iff] at h
  unfold Bus.writeM
  split
  · rfl
  · split
    · exact Bus.writeZ_of_stub b v (by rw [bridge_toNat]; omega)
    · exact if_pos (by omega)

theorem writeM16_of_not_ramAt (b : Bus) {a : BitVec 24} (v : Word) (h0 : ramAt a = false) (h1 : ramAt (a + 1) = false) :
    writeM16 b a v = b := by
  rw [writeM16, Bus.writeM_of_not_ramAt b _ h0, Bus.writeM_of_not_ramAt b _ h1]

/-- A write of any size is discarded when RAM backs none of its bytes. -/
theorem writeMem_of_not_ramAt (b : Bus) {addr : Long} {sz : Size} (v : Long)
    (h : ∀ k < sz.bytes, ramAt (busAddr addr + BitVec.ofNat 24 k) = false) : writeMem b addr sz v = b := by
  have h0 : ramAt (busAddr addr) = false := by simpa using h 0 (by cases sz <;> decide)
  cases sz with
  | b => exact Bus.writeM_of_not_ramAt b _ h0
  | w => exact writeM16_of_not_ramAt b _ h0 (h 1 (by decide))
  | l =>
    have h3 : ramAt (busAddr addr + 2 + 1) = false := by
      rw [BitVec.add_assoc]
      exact h 3 (by decide)
    rw [writeMem, writeM32, writeM16_of_not_ramAt b _ h0 (h 1 (by decide))]
    exact writeM16_of_not_ramAt b _ (h 2 (by decide)) h3

/-- The bus address of a 32-bit address is its low 24 bits (R154). -/
theorem busAddr_toNat (addr : Long) : (busAddr addr).toNat = addr.toNat % 2 ^ 24 := by
  simp [busAddr]

/-- A long that starts before the last 3 bytes of a range without RAM has all its 4 bytes in that range. -/
theorem not_ramAt_busAddr_add_of_range {addr : Long}
    (h : addr.toNat % 2 ^ 24 < 0xA00000 - 3 ∨ (0xA02000 ≤ addr.toNat % 2 ^ 24 ∧ addr.toNat % 2 ^ 24 < 0xFF0000 - 3))
    {k : Nat} (hk : k < 4) : ramAt (busAddr addr + BitVec.ofNat 24 k) = false := by
  rw [ramAt_eq_false_iff, BitVec.toNat_add, BitVec.toNat_ofNat, busAddr_toNat]
  omega

theorem bytes_le_four (sz : Size) : sz.bytes ≤ 4 := by
  cases sz <;> decide

/-! ### The access of the 68000 -/

theorem reachable_mem_of_byte_or_even {addr : Long} {sz : Size} (h : sz = .b ∨ Claims.isEven addr = true) :
    (Loc.mem addr).reachable sz = true := by
  rcases h with rfl | heven
  · rfl
  · exact Bool.or_eq_true_iff.mpr (.inr heven)

theorem memWrite_of_not_ramAt (s : State) {addr : Long} {sz : Size} (v : Long) (hr : (Loc.mem addr).reachable sz)
    (h : ∀ k < sz.bytes, ramAt (busAddr addr + BitVec.ofNat 24 k) = false) : memWrite s addr sz v = .ok s := by
  rw [memWrite_ok s addr sz v hr, writeMem_of_not_ramAt s.bus v h]
  rfl

theorem memRead_byte (s : State) (addr : Long) :
    memRead s addr .b = .ok ((Bus.readM s.bus (busAddr addr)).zeroExtend 32) := rfl

theorem memWrite_byte (s : State) (addr v : Long) :
    memWrite s addr .b v = .ok { s with bus := Bus.writeM s.bus (busAddr addr) (v.extractLsb' 0 8) } := rfl

/-- Settles O39: the Z80's space by its two ranges, the discarded writes by the bytes that no RAM backs. -/
theorem busSpaces : Obligations.BusSpaces := by
  intro s v
  refine ⟨fun k => ⟨fun hram => ?_, fun hstub => ?_⟩, fun a ha => ?_, fun addr w sz hrange hal => ?_, fun addr w => ?_⟩
  · exact ⟨Bus.readZ_of_ram s.bus hram, Bus.writeZ_of_ram s.bus v hram⟩
  · exact ⟨Bus.readZ_of_stub s.bus hstub, Bus.writeZ_of_stub s.bus v hstub⟩
  · exact Bus.writeM_of_not_ramAt s.bus v ((ramAt_eq_false_iff a).mpr ha)
  · exact memWrite_of_not_ramAt s w (reachable_mem_of_byte_or_even hal) fun k hk =>
      not_ramAt_busAddr_add_of_range hrange (Nat.lt_of_lt_of_le hk (bytes_le_four sz))
  · exact ⟨memRead_byte s addr, memWrite_byte s addr w⟩

end Sys2Proof.Machine
end

section
/-! PROOFS. The Z80's decoder reads back every encoding, form by form (30_encoding.md R258 to R271): an encoding is closed
terms but for the bytes it carries and the fields of its operands, so each value of the fields is one evaluation. -/

namespace Sys2Proof

/-- A numeral of a finite type as a natural number. -/
@[simp] theorem val_fin_ofNat (n k : Nat) [NeZero n] : ((no_index (OfNat.ofNat k) : Fin n)).val = k % n := rfl

/-- The eight values of a three-bit field, one case each. -/
theorem fin8_cases {P : Fin 8 → Prop} (h0 : P 0) (h1 : P 1) (h2 : P 2) (h3 : P 3) (h4 : P 4) (h5 : P 5) (h6 : P 6)
    (h7 : P 7) (b : Fin 8) : P b :=
  match b with
  | 0 => h0 | 1 => h1 | 2 => h2 | 3 => h3 | 4 => h4 | 5 => h5 | 6 => h6 | 7 => h7

/-- The two bytes of an immediate, high byte first, are the immediate (R263). -/
theorem nn_of_bytes (nn : Word) : ((nn >>> 8).truncate 8 ++ nn.truncate 8 : Word) = nn := by
  have h : (nn >>> 8).truncate 8 = Machine.hiByte nn := by
    ext i hi
    simp [Machine.hiByte]
  rw [h]
  exact Machine.pairOf_hiByte_loByte nn

/-- A decoder that answers with the word joined from the two bytes of `nn` answers with `nn`. -/
theorem decodes_word (nn : Word) {bs : List Byte} {k : Word → Instr} {len : Nat}
    (h : decodeZ80 bs = .ok (k ((nn >>> 8).truncate 8 ++ nn.truncate 8)) len) : decodeZ80 bs = .ok (k nn) len := by
  rwa [nn_of_bytes] at h

/-- Settles O45, by the form of the instruction: every value of its register, condition and bit fields decodes by evaluation,
the bytes it carries being free; a word is joined again from its two bytes. -/
theorem roundTripZ80 : Obligations.RoundTripZ80 := by
  intro i rest hc _
  cases i with
  | nopZ | exAfAf | incHlInd | decHlInd | rlca | rrca | rla | rra | daa | cpl | scf | ccf | halt | addAHlInd
  | adcAHlInd | subHlInd | sbcAHlInd | andHlInd | xorHlInd | orHlInd | cpHlInd | ret | exx | jpHl | ldSpHl | exSpHl
  | exDeHl | di | ei | neg | retn | reti | im0 | im1 | im2 | ldIA | ldRA | ldAI | ldAR | rrd | rld | ldi | cpi | ini
  | outi | ldd | cpd | ind | outd | ldir | cpir | inir | otir | lddr | cpdr | indr | otdr | incIx | decIx | popIx
  | pushIx | exSpIx | jpIx | ldSpIx | incIy | decIy | popIy | pushIy | exSpIy | jpIy | ldSpIy | djnz e | jr e
  | ldHlIndN n | addAN n | adcAN n | subN n | sbcAN n | andN n | xorN n | orN n | cpN n | outNA n | inAN n | incIxd d
  | decIxd d | addAIxd d | adcAIxd d | subIxd d | sbcAIxd d | andIxd d | xorIxd d | orIxd d | cpIxd d | incIyd d
  | decIyd d | addAIyd d | adcAIyd d | subIyd d | sbcAIyd d | andIyd d | xorIyd d | orIyd d | cpIyd d | rlcIxd d
  | rrcIxd d | rlIxd d | rrIxd d | slaIxd d | sraIxd d | sllIxd d | srlIxd d | rlcIyd d | rrcIyd d | rlIyd d
  | rrIyd d | slaIyd d | sraIyd d | sllIyd d | srlIyd d | ldIxdN d n | ldIydN d n => rfl
  | ldMemHl nn | ldMemA nn | ldHlMem nn | ldAMem nn | jpNn nn | callNn nn | ldIxNn nn | ldMemIx nn | ldIxMem nn
  | ldIyNn nn | ldMemIy nn | ldIyMem nn => exact decodes_word nn rfl
  | ldRpNn p nn | ldMemRp p nn | ldRpMem p nn => cases p <;> exact decodes_word nn rfl
  | jpCcNn cond nn | callCcNn cond nn => cases cond <;> exact decodes_word nn rfl
  | addHlRp p | incRp p | decRp p | sbcHlRp p | adcHlRp p | popRp2 p | pushRp2 p | addIxPp p | addIyPp p | ldIndA p
  | ldAInd p => cases p <;> rfl
  | retCc cond | jrCc cond e => cases cond <;> rfl
  | incR r | decR r | ldRHlInd r | ldHlIndR r | addAR r | adcAR r | subR r | sbcAR r | andR r | xorR r | orR r
  | cpR r | inRC r | outCR r | ldRN r n | ldRIxd r n | ldRIyd r n | ldIxdR d r | ldIydR d r => cases r <;> rfl
  | ldRR r r' => cases r <;> cases r' <;> rfl
  | rlcM m | rrcM m | rlM m | rrM m | slaM m | sraM m | sllM m | srlM m =>
    cases m with
    | hlInd => rfl
    | reg r => cases r <;> rfl
  | bitM b m | resM b m | setM b m =>
    cases m with
    | hlInd => cases b using fin8_cases <;> rfl
    | reg r => cases r <;> cases b using fin8_cases <;> rfl
  | rst b | bitIxd b d | resIxd b d | setIxd b d | bitIyd b d | resIyd b d | setIyd b d => cases b using fin8_cases <;> rfl
  | _ => cases hc

end Sys2Proof
end

section
/-! PROOFS. The 68000's operation word as five fields, and the row of the MAIN table that a word with given fields belongs to
(30_encoding.md R251 to R253, R274 to R284). -/

namespace Sys2Proof

/-! ### Words and bytes -/

/-- A word is its two bytes. -/
theorem word_of_bytes (w : Word) : ((w >>> 8).truncate 8 ++ w.truncate 8 : Word) = w := nn_of_bytes w

/-- The words of an encoding are read back, whatever follows (R165). -/
theorem wordsOf_bytesOf (ws : List Word) (rest : List Byte) : wordsOf (bytesOf ws ++ rest) = ws ++ wordsOf rest := by
  induction ws with
  | nil => rfl
  | cons w ws ih => simp only [bytesOf, List.cons_append, wordsOf, ih, word_of_bytes]

/-- A long is its two words (R280). -/
theorem long_of_words (v : Long) : ((v >>> 16).truncate 16 ++ v.truncate 16 : Long) = v := by
  ext i hi
  simp only [BitVec.getElem_append, BitVec.truncate_eq_setWidth, BitVec.getElem_setWidth, BitVec.getLsbD_ushiftRight]
  split
  · simp [hi]
  · rw [Nat.add_sub_cancel' (by omega)]
    simp [hi]

/-! ### The operation word by its fields -/

/-- The operation word of a line with its fields: bits 11:9, 8:6, 5:3 and 2:0. -/
def slot (line : Fin 16) (a o m r : Fin 8) : Word :=
  opWord (line.val * 0x1000 + a.val * 512 + o.val * 64 + m.val * 8 + r.val)

section Fields

variable (line : Fin 16) (a o m r : Fin 8)

theorem slot_toNat :
    (slot line a o m r).toNat = line.val * 0x1000 + a.val * 512 + o.val * 64 + m.val * 8 + r.val := by
  rw [slot, opWord, BitVec.toNat_ofNat]
  omega

@[simp] theorem slot_line : (slot line a o m r).toNat / 0x1000 = line.val := by
  rw [slot_toNat]; omega

@[simp] theorem fieldOf_slot_mode : fieldOf (slot line a o m r) 5 3 = m.val := by
  simp only [fieldOf, slot_toNat, Nat.reducePow, Nat.reduceSub, Nat.reduceAdd]; omega

@[simp] theorem fieldOf_slot_reg : fieldOf (slot line a o m r) 2 0 = r.val := by
  simp only [fieldOf, slot_toNat, Nat.reducePow, Nat.reduceSub, Nat.reduceAdd]; omega

@[simp] theorem fieldOf_slot_size : fieldOf (slot line a o m r) 7 6 = o.val % 4 := by
  simp only [fieldOf, slot_toNat, Nat.reducePow, Nat.reduceSub, Nat.reduceAdd]; omega

@[simp] theorem fieldOf_slot_op : fieldOf (slot line a o m r) 8 6 = o.val := by
  simp only [fieldOf, slot_toNat, Nat.reducePow, Nat.reduceSub, Nat.reduceAdd]; omega

@[simp] theorem fieldOf_slot_bit8 : fieldOf (slot line a o m r) 8 8 = o.val / 4 := by
  simp only [fieldOf, slot_toNat, Nat.reducePow, Nat.reduceSub, Nat.reduceAdd]; omega

@[simp] theorem fieldOf_slot_bit6 : fieldOf (slot line a o m r) 6 6 = o.val % 2 := by
  simp only [fieldOf, slot_toNat, Nat.reducePow, Nat.reduceSub, Nat.reduceAdd]; omega

@[simp] theorem fieldOf_slot_bit5 : fieldOf (slot line a o m r) 5 5 = m.val / 4 := by
  simp only [fieldOf, slot_toNat, Nat.reducePow, Nat.reduceSub, Nat.reduceAdd]; omega

@[simp] theorem fieldOf_slot_bit3 : fieldOf (slot line a o m r) 3 3 = m.val % 2 := by
  simp only [fieldOf, slot_toNat, Nat.reducePow, Nat.reduceSub, Nat.reduceAdd]; omega

@[simp] theorem fieldOf_slot_high : fieldOf (slot line a o m r) 11 9 = a.val := by
  simp only [fieldOf, slot_toNat, Nat.reducePow, Nat.reduceSub, Nat.reduceAdd]; omega

@[simp] theorem fieldOf_slot_cond : fieldOf (slot line a o m r) 11 8 = a.val * 2 + o.val / 4 := by
  simp only [fieldOf, slot_toNat, Nat.reducePow, Nat.reduceSub, Nat.reduceAdd]; omega

@[simp] theorem regAt_slot_low : regAt (slot line a o m r) 0 = r := by
  simp only [regAt, fin8, slot_toNat, Fin.ext_iff]; omega

@[simp] theorem regAt_slot_high : regAt (slot line a o m r) 9 = a := by
  simp only [regAt, fin8, slot_toNat, Fin.ext_iff]; omega

end Fields

/-- Three bits of a conjunction of numbers are the conjunction of the bits. -/
theorem and_div_mod (x y k j : Nat) : (x &&& y) / 2 ^ k % 2 ^ j = (x / 2 ^ k % 2 ^ j) &&& (y / 2 ^ k % 2 ^ j) := by
  rw [Nat.and_div_two_pow, Nat.and_mod_two_pow]

/-- A row's mask and value are compared field by field. -/
theorem slot_and_beq (line : Fin 16) (a o m r : Fin 8) (mask value : Nat) (hv : value < 0x10000) :
    (((slot line a o m r).toNat &&& mask) == value) =
      ((line.val &&& (mask / 0x1000 % 16)) == value / 0x1000 && (a.val &&& (mask / 512 % 8)) == value / 512 % 8 &&
        (o.val &&& (mask / 64 % 8)) == value / 64 % 8 && (m.val &&& (mask / 8 % 8)) == value / 8 % 8 &&
        (r.val &&& (mask % 8)) == value % 8) := by
  have hlt : (slot line a o m r).toNat &&& mask < 0x10000 := Nat.lt_of_le_of_lt Nat.and_le_left (slot line a o m r).isLt
  have field (k j : Nat) := and_div_mod (slot line a o m r).toNat mask k j
  have h4 := field 12 4
  have h3 := field 9 3
  have h2 := field 6 3
  have h1 := field 3 3
  have h0 := field 0 3
  have e4 : (slot line a o m r).toNat / 2 ^ 12 % 2 ^ 4 = line.val := by rw [slot_toNat]; omega
  have e3 : (slot line a o m r).toNat / 2 ^ 9 % 2 ^ 3 = a.val := by rw [slot_toNat]; omega
  have e2 : (slot line a o m r).toNat / 2 ^ 6 % 2 ^ 3 = o.val := by rw [slot_toNat]; omega
  have e1 : (slot line a o m r).toNat / 2 ^ 3 % 2 ^ 3 = m.val := by rw [slot_toNat]; omega
  have e0 : (slot line a o m r).toNat / 2 ^ 0 % 2 ^ 3 = r.val := by rw [slot_toNat]; omega
  rw [e4] at h4; rw [e3] at h3; rw [e2] at h2; rw [e1] at h1; rw [e0] at h0
  simp only [Nat.reducePow, Nat.div_one] at h4 h3 h2 h1 h0
  rw [← h4, ← h3, ← h2, ← h1, ← h0, Bool.eq_iff_iff]
  simp only [Bool.and_eq_true, beq_iff_eq]
  omega

end Sys2Proof
end

section
/-! PROOFS. Effective addresses and immediates read back from their words, and the categories of a mode field (30_encoding.md
R277 to R282). -/

namespace Sys2Proof

/-! ### The two numbers of an effective address -/

/-- The mode number of an effective address (R277). -/
def Ea.mode : Ea → Fin 8
  | .dreg _ => 0
  | .areg _ => 1
  | .ind _ => 2
  | .postInc _ => 3
  | .preDec _ => 4
  | .disp _ _ => 5
  | .index _ _ _ => 6
  | .absW _ | .absL _ | .pcDisp _ | .pcIndex _ _ | .imm _ => 7

/-- The register number of an effective address (R277). -/
def Ea.reg : Ea → Fin 8
  | .dreg n | .areg n | .ind n | .postInc n | .preDec n | .disp n _ | .index n _ _ => n
  | .absW _ => 0
  | .absL _ => 1
  | .pcDisp _ => 2
  | .pcIndex _ _ => 3
  | .imm _ => 4

theorem Ea.code_eq (e : Ea) : e.code = e.mode.val * 8 + e.reg.val := by
  cases e <;> rfl

theorem Ea.dstCode_eq (e : Ea) : e.dstCode = e.reg.val * 512 + e.mode.val * 64 := by
  have h : e.modeReg = (e.mode.val, e.reg.val) := by cases e <;> rfl
  simp only [Ea.dstCode, h]
  omega

/-! ### Categories (R282) -/

theorem Ea.isAreg_eq (e : Ea) : e.isAreg = (e.mode.val == 1) := by
  cases e <;> rfl

@[simp] theorem Ea.eaIn_all (e : Ea) : eaIn .all e.mode.val e.reg.val = true := by
  cases e <;> simp [eaIn, Ea.mode, Ea.reg]

@[simp] theorem Ea.eaIn_data (e : Ea) : eaIn .data e.mode.val e.reg.val = e.isData := by
  cases e <;> simp [eaIn, Ea.mode, Ea.reg, Ea.isData, Ea.isAreg]

@[simp] theorem Ea.eaIn_dataNi (e : Ea) : eaIn .dataNi e.mode.val e.reg.val = e.isDataNi := by
  cases e <;> simp [eaIn, Ea.mode, Ea.reg, Ea.isDataNi]

@[simp] theorem Ea.eaIn_alt (e : Ea) : eaIn .alt e.mode.val e.reg.val = e.isAlt := by
  cases e <;> simp [eaIn, Ea.mode, Ea.reg, Ea.isAlt]

@[simp] theorem Ea.eaIn_dalt (e : Ea) : eaIn .dalt e.mode.val e.reg.val = e.isDalt := by
  cases e <;> simp [eaIn, Ea.mode, Ea.reg, Ea.isDalt, Ea.isAlt, Ea.isAreg]

@[simp] theorem Ea.eaIn_malt (e : Ea) : eaIn .malt e.mode.val e.reg.val = e.isMalt := by
  cases e <;> simp [eaIn, Ea.mode, Ea.reg, Ea.isMalt]

@[simp] theorem Ea.eaIn_ctrl (e : Ea) : eaIn .ctrl e.mode.val e.reg.val = e.isCtrl := by
  cases e <;> simp [eaIn, Ea.mode, Ea.reg, Ea.isCtrl]

@[simp] theorem Ea.eaIn_caltPd (e : Ea) : eaIn .caltPd e.mode.val e.reg.val = e.isCaltPd := by
  cases e <;> simp [eaIn, Ea.mode, Ea.reg, Ea.isCaltPd]

@[simp] theorem Ea.eaIn_ctrlPi (e : Ea) : eaIn .ctrlPi e.mode.val e.reg.val = e.isCtrlPi := by
  cases e <;> simp [eaIn, Ea.mode, Ea.reg, Ea.isCtrlPi, Ea.isCtrl]

theorem Ea.fits_of_isAlt {e : Ea} (h : e.isAlt = true) (sz : Size) : e.fits sz = true := by
  cases e with
  | imm v => cases h
  | _ => rfl

theorem Ea.isAlt_of_isDalt {e : Ea} (h : e.isDalt = true) : e.isAlt = true :=
  (Bool.and_eq_true_iff.mp h).1

theorem Ea.isAlt_of_isMalt {e : Ea} (h : e.isMalt = true) : e.isAlt = true := by
  cases e with
  | pcDisp d | pcIndex x d | imm v => cases h
  | _ => rfl

theorem Ea.isAlt_of_isCaltPd {e : Ea} (h : e.isCaltPd = true) : e.isAlt = true := by
  cases e with
  | pcDisp d | pcIndex x d | imm v => cases h
  | _ => rfl

theorem Ea.fits_of_isDalt {e : Ea} (h : e.isDalt = true) : ∀ sz : Size, e.fits sz = true :=
  Ea.fits_of_isAlt (Ea.isAlt_of_isDalt h)

theorem Ea.fits_of_isMalt {e : Ea} (h : e.isMalt = true) : ∀ sz : Size, e.fits sz = true :=
  Ea.fits_of_isAlt (Ea.isAlt_of_isMalt h)

theorem Ea.fits_of_isCaltPd {e : Ea} (h : e.isCaltPd = true) : ∀ sz : Size, e.fits sz = true :=
  Ea.fits_of_isAlt (Ea.isAlt_of_isCaltPd h)

theorem Ea.mode_ne_zero_of_isCtrl {e : Ea} (h : e.isCtrl = true) : e.mode.val ≠ 0 := by
  cases e with
  | dreg n => cases h
  | _ => simp [Ea.mode]

theorem Ea.mode_ne_zero_of_isCaltPd {e : Ea} (h : e.isCaltPd = true) : e.mode.val ≠ 0 := by
  cases e with
  | dreg n => cases h
  | _ => simp [Ea.mode]

theorem Ea.fits_of_isDataNi {e : Ea} (h : e.isDataNi = true) (sz : Size) : e.fits sz = true := by
  cases e with
  | imm v => cases h
  | _ => rfl

theorem Ea.fits_of_isCtrl {e : Ea} (h : e.isCtrl = true) (sz : Size) : e.fits sz = true := by
  cases e with
  | imm v => cases h
  | _ => rfl

theorem Ea.fits_of_isCtrlPi {e : Ea} (h : e.isCtrlPi = true) (sz : Size) : e.fits sz = true := by
  cases e with
  | imm v => cases h
  | _ => rfl

/-! ### Reading back -/

theorem fin8_val (n : Fin 8) : fin8 n.val = n :=
  Fin.ext (Nat.mod_eq_of_lt n.isLt)

/-- The brief extension word by its fields (R278). -/
theorem IndexX.word_toNat (x : IndexX) (d : Byte) :
    (x.word d).toNat = x.isAddr.toNat * 0x8000 + x.reg.val * 0x1000 + x.long.toNat * 0x800 + d.toNat := by
  have ha := Bool.toNat_le x.isAddr
  have hl := Bool.toNat_le x.long
  rw [IndexX.word, BitVec.toNat_ofNat]
  omega

theorem indexOf_word (x : IndexX) (d : Byte) : indexOf (x.word d) = (x, d) := by
  have hw := x.word_toNat d
  have hd := d.isLt
  have hr := x.reg.isLt
  have hbit (k : Nat) : (x.word d).getLsbD k = decide ((x.word d).toNat / 2 ^ k % 2 = 1) := Nat.testBit_eq_decide_div_mod_eq
  have h15 : (x.word d).getLsbD 15 = x.isAddr := by
    rw [hbit, hw]
    cases x.isAddr <;> cases x.long <;> simp <;> omega
  have h11 : (x.word d).getLsbD 11 = x.long := by
    rw [hbit, hw]
    cases x.isAddr <;> cases x.long <;> simp <;> omega
  have hreg : regAt (x.word d) 12 = x.reg := by
    have ha := Bool.toNat_le x.isAddr
    have hl := Bool.toNat_le x.long
    simp only [regAt, fin8, hw, Fin.ext_iff]
    omega
  have hdisp : (x.word d).truncate 8 = d := by
    apply BitVec.eq_of_toNat_eq
    rw [BitVec.truncate_eq_setWidth, BitVec.toNat_setWidth, hw]
    omega
  rw [indexOf, h15, h11, hreg, hdisp]

/-- An immediate that fits its size is read back from its words (R280). -/
theorem readImm_immWords {sz : Size} {v : Long} (h : fits sz v = true) (ext : List Word) :
    readImm sz (immWords sz v ++ ext) = some (v, ext) := by
  have hv : v.toNat < 2 ^ (8 * sz.bytes) := of_decide_eq_true h
  cases sz with
  | b =>
    have e : ((v.truncate 16 : Word).truncate 8 : Byte).zeroExtend 32 = v := by
      apply BitVec.eq_of_toNat_eq
      simp only [BitVec.truncate_eq_setWidth, BitVec.toNat_setWidth]
      simp only [Size.bytes] at hv
      omega
    exact congrArg (fun x => some (x, ext)) e
  | w =>
    have e : (v.truncate 16 : Word).zeroExtend 32 = v := by
      apply BitVec.eq_of_toNat_eq
      simp only [BitVec.truncate_eq_setWidth, BitVec.toNat_setWidth]
      simp only [Size.bytes] at hv
      omega
    exact congrArg (fun x => some (x, ext)) e
  | l => exact congrArg (fun x => some (x, ext)) (long_of_words v)

/-- An effective address of the size is read back from its numbers and its words (R277, R279). -/
theorem readEa_words {sz : Size} {e : Ea} (h : e.fits sz = true) (ext : List Word) :
    readEa e.mode.val e.reg.val sz (e.words sz ++ ext) = some (e, ext) := by
  cases e with
  | dreg n | areg n | ind n | postInc n | preDec n =>
    simp [readEa, Ea.mode, Ea.reg, Ea.words, fin8_val]
  | disp n d => simp [readEa, Ea.mode, Ea.reg, Ea.words, fin8_val]
  | index n x d => simp [readEa, Ea.mode, Ea.reg, Ea.words, fin8_val, indexOf_word]
  | absW a | pcDisp d => rfl
  | absL a => exact congrArg (fun x => some (Ea.absL x, ext)) (long_of_words a)
  | pcIndex x d => simp [readEa, Ea.mode, Ea.reg, Ea.words, indexOf_word]
  | imm v => simp [readEa, Ea.mode, Ea.reg, Ea.words, readImm_immWords h]

end Sys2Proof
end

section
/-! PROOFS. The row of a slot and what it reads, by the fields of the operation word (30_encoding.md R251 to R253, R274 to
R284). -/

namespace Sys2Proof

/-! ### The row of a slot -/

/-- What the row of an operation word reads from the words after it. -/
def readBy (w : Word) (ext : List Word) : Option (Instr × List Word) := (rowFor w).bind fun row => row.read w ext

/-- The row that installs a slot, read with the words after it, among rows that are left to ask. -/
def readAmong (rows : List OpRow) (w : Word) (ext : List Word) : Option (Instr × List Word) :=
  (rows.find? (·.installs w)).bind fun row => row.read w ext

@[simp] theorem readAmong_cons (row : OpRow) (rows : List OpRow) (w : Word) (ext : List Word) :
    readAmong (row :: rows) w ext = if row.installs w then row.read w ext else readAmong rows w ext := by
  simp only [readAmong, List.find?_cons]
  cases row.installs w <;> rfl

section Rows

variable (line : Fin 16) (a o m r : Fin 8) (ext : List Word)

theorem readBy_slot : readBy (slot line a o m r) ext = readAmong (lineRows line.val) (slot line a o m r) ext := by
  rw [readBy, rowFor, slot_line, readAmong]

@[simp] theorem installs_slot (mask value : Nat) (ok : Word → Bool) (read : OpReader) (hv : value < 0x10000) :
    (OpRow.mk mask value ok read).installs (slot line a o m r) =
      ((line.val &&& (mask / 0x1000 % 16)) == value / 0x1000 && (a.val &&& (mask / 512 % 8)) == value / 512 % 8 &&
        (o.val &&& (mask / 64 % 8)) == value / 64 % 8 && (m.val &&& (mask / 8 % 8)) == value / 8 % 8 &&
        (r.val &&& (mask % 8)) == value % 8 && ok (slot line a o m r)) := by
  rw [OpRow.installs, slot_and_beq _ _ _ _ _ _ _ hv]

@[simp] theorem always_slot (w : Word) : always w = true := rfl

@[simp] theorem fin8_and_seven (n : Fin 8) : n.val &&& 7 = n.val := by
  revert n
  decide

@[simp] theorem eaIn_dalt_areg (r : Nat) : eaIn .dalt 1 r = false := rfl

@[simp] theorem eaOk_slot (cat : EaCat) : eaOk cat (slot line a o m r) = eaIn cat m.val r.val := by
  rw [eaOk, fieldOf_slot_mode, fieldOf_slot_reg]

@[simp] theorem szOk_slot : szOk (slot line a o m r) = (o.val % 4 != 3) := by
  rw [szOk, fieldOf_slot_size]

@[simp] theorem szEaOk_slot (cat : EaCat) : szEaOk cat (slot line a o m r) = (o.val % 4 != 3 && eaIn cat m.val r.val) := by
  rw [szEaOk, szOk_slot, eaOk_slot]

@[simp] theorem szEaNoBA_slot (cat : EaCat) : szEaNoBA cat (slot line a o m r) =
    (o.val % 4 != 3 && eaIn cat m.val r.val && !(o.val % 4 == 0 && m.val == 1)) := by
  rw [szEaNoBA, szEaOk_slot, fieldOf_slot_size, fieldOf_slot_mode]

@[simp] theorem moveOk_slot : moveOk (slot line a o m r) = (eaIn .dalt o.val a.val && eaIn .all m.val r.val) := by
  rw [moveOk, eaOk_slot, fieldOf_slot_op, fieldOf_slot_high]

end Rows

/-! ### The readers on the words of an encoding -/

section Readers

variable (line : Fin 16) (a o m r : Fin 8) (e : Ea) (ext : List Word)

@[simp] theorem plain_apply (k : Word → Instr) (w : Word) : plain k w ext = some (k w, ext) := rfl

@[simp] theorem ext1_cons (k : Word → Word → Instr) (w x : Word) : ext1 k w (x :: ext) = some (k w x, ext) := rfl

theorem eaAt_words (sz : Word → Size) (k : Word → Ea → Instr) (h : e.fits (sz (slot line a o e.mode e.reg)) = true) :
    eaAt sz k (slot line a o e.mode e.reg) (e.words (sz (slot line a o e.mode e.reg)) ++ ext) =
      some (k (slot line a o e.mode e.reg) e, ext) := by
  simp only [eaAt, fieldOf_slot_mode, fieldOf_slot_reg, readEa_words h]

theorem ea_words (sz : Size) (k : Word → Ea → Instr) (h : e.fits sz = true) :
    ea sz k (slot line a o e.mode e.reg) (e.words sz ++ ext) = some (k (slot line a o e.mode e.reg) e, ext) :=
  eaAt_words line a o e ext (fun _ => sz) k h

theorem eaWL_words_w (k : Word → Ea → Instr) (ho : o.val / 4 = 0) (h : e.fits .w = true) :
    eaAt (fun w => sizeWL (fieldOf w 8 8)) k (slot line a o e.mode e.reg) (e.words .w ++ ext) =
      some (k (slot line a o e.mode e.reg) e, ext) := by
  simp only [eaAt, fieldOf_slot_bit8, ho, sizeWL, fieldOf_slot_mode, fieldOf_slot_reg, readEa_words h]

theorem eaWL_words_l (k : Word → Ea → Instr) (ho : o.val / 4 = 1) (h : e.fits .l = true) :
    eaAt (fun w => sizeWL (fieldOf w 8 8)) k (slot line a o e.mode e.reg) (e.words .l ++ ext) =
      some (k (slot line a o e.mode e.reg) e, ext) := by
  simp only [eaAt, fieldOf_slot_bit8, ho, sizeWL, fieldOf_slot_mode, fieldOf_slot_reg, readEa_words h]

theorem szEa_words {sz : Size} (k : Size → Word → Ea → Instr) (hs : sizeOf (o.val % 4) = sz) (h : e.fits sz = true) :
    szEa k (slot line a o e.mode e.reg) (e.words sz ++ ext) = some (k sz (slot line a o e.mode e.reg) e, ext) := by
  subst hs
  simp only [szEa, eaAt, fieldOf_slot_size, fieldOf_slot_mode, fieldOf_slot_reg, readEa_words h]

theorem immEa_words {sz : Size} {v : Long} (k : Size → Long → Ea → Instr) (hs : sizeOf (o.val % 4) = sz)
    (hv : fits sz v = true) (h : e.fits sz = true) :
    immEa k (slot line a o e.mode e.reg) (immWords sz v ++ (e.words sz ++ ext)) = some (k sz v e, ext) := by
  subst hs
  simp only [immEa, fieldOf_slot_size, fieldOf_slot_mode, fieldOf_slot_reg, readImm_immWords hv,
    readEa_words h]

theorem bitEa_words (b : Byte) (k : Byte → Ea → Instr) (h : e.fits .b = true) :
    bitEa k (slot line a o e.mode e.reg) (b.setWidth 16 :: (e.words .b ++ ext)) = some (k b e, ext) := by
  have hb : ((b.setWidth 16 : Word).truncate 8 : Byte) = b := by
    apply BitVec.eq_of_toNat_eq
    simp only [BitVec.truncate_eq_setWidth, BitVec.toNat_setWidth]
    omega
  simp only [bitEa, fieldOf_slot_mode, fieldOf_slot_reg, readEa_words h, hb]

theorem maskEa_words {sz : Size} (mask : Word) (k : Size → Word → Ea → Instr) (hs : sizeWL (o.val % 2) = sz)
    (h : e.fits sz = true) :
    maskEa k (slot line a o e.mode e.reg) (mask :: (e.words sz ++ ext)) = some (k sz mask e, ext) := by
  subst hs
  simp only [maskEa, fieldOf_slot_bit6, fieldOf_slot_mode, fieldOf_slot_reg, readEa_words h]

theorem moveEa_words {sz : Size} {d : Ea} (k : Ea → Ea → Instr) (h : e.fits sz = true) (hd : d.fits sz = true) :
    moveEa sz k (slot line d.reg d.mode e.mode e.reg) (e.words sz ++ (d.words sz ++ ext)) = some (k e d, ext) := by
  simp only [moveEa, fieldOf_slot_op, fieldOf_slot_high, fieldOf_slot_mode, fieldOf_slot_reg,
    readEa_words h, readEa_words hd]

end Readers

/-! ### Decoding an encoding -/

/-- An encoding of an operation word and the words after it is decoded as what its row reads from them. -/
theorem decode_opWith {n : Nat} {ws : List Word} {i : Instr} (line : Fin 16) (a o m r : Fin 8) (rest : List Byte)
    (hn : n = line.val * 0x1000 + a.val * 512 + o.val * 64 + m.val * 8 + r.val)
    (h : readAmong (lineRows line.val) (slot line a o m r) (ws ++ wordsOf rest) = some (i, wordsOf rest)) :
    decode .m68k (opWith n ws ++ rest) = .ok i (opWith n ws).length := by
  subst hn
  have hlen : (opWith (line.val * 0x1000 + a.val * 512 + o.val * 64 + m.val * 8 + r.val) ws).length = 2 * (ws.length + 1) := by
    simp only [opWith, Laws.Coding.bytesOf_length, List.length_cons]
  rw [← readBy_slot, readBy, Option.bind_eq_some_iff] at h
  obtain ⟨row, hrow, hread⟩ := h
  rw [hlen, decode, opWith, wordsOf_bytesOf, List.cons_append, ← slot, decodeWords, hrow]
  simp only [hread, List.length_append]
  congr 2
  omega

end Sys2Proof
end

section
/-! PROOFS. Every well-formed 68000 instruction is read back from its encoding (30_encoding.md R274 to R284): one lemma per form
of encoding that places the form's fields in the operation word, then, per instruction, the fields of its row. -/

namespace Sys2Proof

/-! ### The rows of a line -/

@[simp] theorem lineRows_zero : lineRows 0 = rows0 := rfl
@[simp] theorem lineRows_one : lineRows 1 = rows1 := rfl
@[simp] theorem lineRows_two : lineRows 2 = rows2 := rfl
@[simp] theorem lineRows_three : lineRows 3 = rows3 := rfl
@[simp] theorem lineRows_four : lineRows 4 = rows4 := rfl
@[simp] theorem lineRows_five : lineRows 5 = rows5 := rfl
@[simp] theorem lineRows_six : lineRows 6 = rows6 := rfl
@[simp] theorem lineRows_seven : lineRows 7 = rows7 := rfl
@[simp] theorem lineRows_eight : lineRows 8 = rows8 := rfl
@[simp] theorem lineRows_nine : lineRows 9 = rows9 := rfl
@[simp] theorem lineRows_ten : lineRows 10 = rowsA := rfl
@[simp] theorem lineRows_eleven : lineRows 11 = rowsB := rfl
@[simp] theorem lineRows_twelve : lineRows 12 = rowsC := rfl
@[simp] theorem lineRows_thirteen : lineRows 13 = rowsD := rfl
@[simp] theorem lineRows_fourteen : lineRows 14 = rowsE := rfl
@[simp] theorem lineRows_fifteen : lineRows 15 = rowsF := rfl

/-! ### Bits 8 to 6 with a size field -/

/-- Bits 8 to 6 of an operation word with the standard size field in bits 7 and 6 (R281). -/
def Size.opField (sz : Size) (bit8 : Fin 2) : Fin 8 := fin8 (bit8.val * 4 + sz.code)

/-- Bits 8 to 6 of an operation word with the one-bit size field in bit 6, bit 7 being 1 (R281). -/
def Size.opFieldLow (sz : Size) : Fin 8 := fin8 (2 + sz.codeWL)

/-- Bits 8 to 6 of an operation word with the one-bit size field in bit 8, bits 7 and 6 being 1 (R281). -/
def Size.opFieldHigh (sz : Size) : Fin 8 := fin8 (sz.codeWL * 4 + 3)

theorem Size.code_lt (sz : Size) : sz.code < 3 := by
  cases sz <;> decide

theorem Size.codeWL_lt (sz : Size) : sz.codeWL < 2 := by
  cases sz <;> decide

theorem Size.opField_val (sz : Size) (bit8 : Fin 2) : (sz.opField bit8).val = bit8.val * 4 + sz.code := by
  have h := sz.code_lt
  simp only [Size.opField, fin8]
  omega

@[simp] theorem Size.opField_b (bit8 : Fin 2) : Size.b.opField bit8 = fin8 (bit8.val * 4) := rfl
@[simp] theorem Size.opField_w (bit8 : Fin 2) : Size.w.opField bit8 = fin8 (bit8.val * 4 + 1) := rfl
@[simp] theorem Size.opField_l (bit8 : Fin 2) : Size.l.opField bit8 = fin8 (bit8.val * 4 + 2) := rfl

@[simp] theorem Size.opFieldLow_w : Size.w.opFieldLow = 2 := rfl
@[simp] theorem Size.opFieldLow_l : Size.l.opFieldLow = 3 := rfl

@[simp] theorem Size.opFieldHigh_w : Size.w.opFieldHigh = 3 := rfl
@[simp] theorem Size.opFieldHigh_l : Size.l.opFieldHigh = 7 := rfl

@[simp] theorem sizeOf_zero : sizeOf 0 = .b := rfl
@[simp] theorem sizeOf_one : sizeOf 1 = .w := rfl
@[simp] theorem sizeOf_two : sizeOf 2 = .l := rfl

@[simp] theorem sizeWL_zero : sizeWL 0 = .w := rfl
@[simp] theorem sizeWL_one : sizeWL 1 = .l := rfl

/-! ### The forms of an encoding -/

section Forms

variable {base : Nat} {sz : Size} {e : Ea} {i : Instr} (line : Fin 16) (a o : Fin 8) (bit8 : Fin 2) (rest : List Byte)

theorem decode_opOnly {n : Nat} (m r : Fin 8) (hn : n = line.val * 0x1000 + a.val * 512 + o.val * 64 + m.val * 8 + r.val)
    (h : readAmong (lineRows line.val) (slot line a o m r) (wordsOf rest) = some (i, wordsOf rest)) :
    decode .m68k (opOnly n ++ rest) = .ok i (opOnly n).length :=
  decode_opWith (ws := []) line a o m r rest hn h

theorem decode_opEa (hb : base = line.val * 0x1000 + a.val * 512 + o.val * 64)
    (h : readAmong (lineRows line.val) (slot line a o e.mode e.reg) (e.words sz ++ wordsOf rest) = some (i, wordsOf rest)) :
    decode .m68k (opEa base sz e ++ rest) = .ok i (opEa base sz e).length := by
  refine decode_opWith line a o e.mode e.reg rest ?_ h
  rw [hb, e.code_eq]
  omega

theorem decode_opSzEa (hb : base = line.val * 0x1000 + a.val * 512 + bit8.val * 256)
    (h : readAmong (lineRows line.val) (slot line a (sz.opField bit8) e.mode e.reg) (e.words sz ++ wordsOf rest) =
      some (i, wordsOf rest)) :
    decode .m68k (opSzEa base sz e ++ rest) = .ok i (opSzEa base sz e).length := by
  refine decode_opEa line a (sz.opField bit8) rest ?_ h
  rw [hb, Size.opField_val]
  omega

theorem decode_opImmEa {v : Long} (hb : base = line.val * 0x1000 + a.val * 512)
    (h : readAmong (lineRows line.val) (slot line a (sz.opField 0) e.mode e.reg) (immWords sz v ++ e.words sz ++ wordsOf rest) =
      some (i, wordsOf rest)) :
    decode .m68k (opImmEa base sz v e ++ rest) = .ok i (opImmEa base sz v e).length := by
  refine decode_opWith line a (sz.opField 0) e.mode e.reg rest ?_ h
  rw [hb, e.code_eq, Size.opField_val]
  simp only [Fin.val_zero]
  omega

theorem decode_opBitEa {b : Byte} (hb : base = line.val * 0x1000 + a.val * 512 + o.val * 64)
    (h : readAmong (lineRows line.val) (slot line a o e.mode e.reg) (b.zeroExtend 16 :: e.words .b ++ wordsOf rest) =
      some (i, wordsOf rest)) :
    decode .m68k (opBitEa base b e ++ rest) = .ok i (opBitEa base b e).length := by
  refine decode_opWith line a o e.mode e.reg rest ?_ h
  rw [hb, e.code_eq]
  omega

theorem decode_opMove {d : Ea} (hb : base = line.val * 0x1000)
    (h : readAmong (lineRows line.val) (slot line d.reg d.mode e.mode e.reg) (e.words sz ++ d.words sz ++ wordsOf rest) =
      some (i, wordsOf rest)) :
    decode .m68k (opMove base sz e d ++ rest) = .ok i (opMove base sz e d).length := by
  refine decode_opWith line d.reg d.mode e.mode e.reg rest ?_ h
  rw [hb, e.code_eq, d.dstCode_eq]
  omega

/-- MOVEM: the mask word stands before the EA's words (R913). -/
theorem decode_movem {mask : Word} (hb : base = line.val * 0x1000 + a.val * 512 + 128)
    (h : readAmong (lineRows line.val) (slot line a sz.opFieldLow e.mode e.reg) (mask :: e.words sz ++ wordsOf rest) =
      some (i, wordsOf rest)) :
    decode .m68k (opWith (base + sz.codeWL * 64 + e.code) (mask :: e.words sz) ++ rest) =
      .ok i (opWith (base + sz.codeWL * 64 + e.code) (mask :: e.words sz)).length := by
  refine decode_opWith line a sz.opFieldLow e.mode e.reg rest ?_ h
  have hs := sz.codeWL_lt
  rw [hb, e.code_eq, Size.opFieldLow]
  simp only [fin8]
  omega

end Forms

/-! ### Fields that hold a byte or a trap number -/

theorem low_of_sum (l a b d : Nat) (hd : d < 2 ^ 8) : (l * 0x1000 + a * 512 + b * 256 + d) % 2 ^ 8 = d := by
  omega

theorem line_of_fields (l w : Nat) (hw : w < 2 ^ 12) :
    (l * 0x1000 + w / 512 % 8 * 512 + w / 64 % 8 * 64 + w / 8 % 8 * 8 + w % 8) % 2 ^ 12 = w := by
  omega

/-- Bits 8 to 6 of an operation word whose low half is a byte. -/
def byteField (bit8 : Fin 2) (d : Byte) : Fin 8 := fin8 (bit8.val * 4 + d.toNat / 64)

/-- The operation word whose low half is a byte. -/
def byteSlot (line : Fin 16) (a : Fin 8) (bit8 : Fin 2) (d : Byte) : Word :=
  slot line a (byteField bit8 d) (fin8 (d.toNat / 8)) (fin8 d.toNat)

section Bytes

variable (line : Fin 16) (a : Fin 8) (bit8 : Fin 2) (d : Byte)

theorem byteSlot_toNat :
    (byteSlot line a bit8 d).toNat = line.val * 0x1000 + a.val * 512 + bit8.val * 256 + d.toNat := by
  simp only [byteSlot, byteField, slot_toNat, fin8]
  omega

theorem byteSlot_truncate : (byteSlot line a bit8 d).truncate 8 = d := by
  apply BitVec.eq_of_toNat_eq
  have hd := d.isLt
  rw [BitVec.truncate_eq_setWidth, BitVec.toNat_setWidth, byteSlot_toNat]
  exact low_of_sum _ _ _ _ hd

theorem byteField_bit8 : (byteField bit8 d).val / 4 = bit8.val := by
  simp only [byteField, fin8]
  omega

theorem byteField_and_four : (byteField bit8 d).val &&& 4 = bit8.val * 4 := by
  rw [byteField]
  have h : d.toNat / 64 < 4 := by omega
  generalize d.toNat / 64 = x at h
  revert x bit8
  decide

theorem decode_opOnly_byte {n : Nat} {i : Instr} (rest : List Byte)
    (hn : n = line.val * 0x1000 + a.val * 512 + bit8.val * 256 + d.toNat)
    (h : readAmong (lineRows line.val) (byteSlot line a bit8 d) (wordsOf rest) = some (i, wordsOf rest)) :
    decode .m68k (opOnly n ++ rest) = .ok i (opOnly n).length := by
  refine decode_opOnly line a _ rest _ _ ?_ h
  rw [hn, ← byteSlot_toNat, byteSlot, slot_toNat]

/-- A branch is read back from its opcode byte and its displacement (47 R1102). -/
theorem decode_opBranch {n : Nat} {d : BrDisp} (hwf : d.wf = true) (k : Word → BrDisp → Instr) (i : BrDisp → Instr) (rest : List Byte)
    (hn : n = 0x6000 + a.val * 512 + bit8.val * 256) (hk : ∀ (b : Byte) (d : BrDisp), k (byteSlot 6 a bit8 b) d = i d)
    (h : ∀ (b : Byte) (ext : List Word), readAmong rows6 (byteSlot 6 a bit8 b) ext = branch k (byteSlot 6 a bit8 b) ext) :
    decode .m68k (opBranch n d ++ rest) = .ok (i d) (opBranch n d).length := by
  cases d with
  | short d =>
    have hd : d ≠ 0 := by simpa [BrDisp.wf] using hwf
    refine decode_opOnly_byte 6 a bit8 d rest (by rw [hn]; rfl) ((h d _).trans ?_)
    simp only [branch, byteSlot_truncate, hd, if_false, hk]
  | word d =>
    refine decode_opWith 6 a _ _ _ rest ?_ ((h 0 _).trans ?_)
    · have h6 : (6 : Fin 16).val = 6 := rfl
      have h0 : (0 : Byte).toNat = 0 := rfl
      simp only [byteField, fin8, hn, h0, h6]
      omega
    · simp only [branch, byteSlot_truncate, if_true, List.cons_append, List.nil_append, hk]

end Bytes

/-- The fields of a TRAP's operation word (R1130). -/
theorem trapField_and_six (v : Fin 16) : (fin8 (v.val / 8)).val &&& 6 = 0 := by
  revert v
  decide

theorem trapSlot_mod (v : Fin 16) : (slot 4 7 1 (fin8 (v.val / 8)) (fin8 v.val)).toNat % 16 = v.val := by
  simp only [slot_toNat, fin8]
  omega

/-! ### Shifts, and the words of a line -/

/-- Bits 11:9 of a register shift: the field ccc or the count's register (R1003). -/
def ShiftCount.regField : ShiftCount → Fin 8
  | .imm q => q
  | .reg n => n

/-- Bits 5:3 of a register shift over its kind in bits 4 and 3: bit 5 is 1 for a count in a register (R1003). -/
def ShiftCount.modeOver (k : ShiftCount) (kind : Nat) : Fin 8 :=
  match k with
  | .imm _ => fin8 kind
  | .reg _ => fin8 (kind + 4)

theorem decode_opShift {base : Nat} {sz : Size} {k : ShiftCount} {n : Fin 8} {i : Instr} (bit8 : Fin 2) (kind : Fin 4)
    (rest : List Byte) (hb : base = 0xE000 + bit8.val * 256 + kind.val * 8)
    (h : readAmong rowsE (slot 14 k.regField (sz.opField bit8) (k.modeOver kind.val) n) (wordsOf rest) = some (i, wordsOf rest)) :
    decode .m68k (opShift base sz k n ++ rest) = .ok i (opShift base sz k n).length := by
  refine decode_opOnly 14 k.regField (sz.opField bit8) rest (k.modeOver kind.val) n ?_ h
  rw [Size.opField_val, hb]
  cases k <;> simp only [ShiftCount.code, ShiftCount.regField, ShiftCount.modeOver, fin8] <;> omega

theorem shiftReg_slot (k : Size → ShiftCount → Fin 8 → Instr) (line : Fin 16) (a o m r : Fin 8) (ext : List Word) :
    shiftReg k (slot line a o m r) ext =
      some (k (sizeOf (o.val % 4)) (if m.val / 4 = 0 then .imm a else .reg a) r, ext) := by
  simp only [shiftReg, plain_apply, shiftCountAt, fieldOf_slot_size, fieldOf_slot_bit5, regAt_slot_high, regAt_slot_low]

/-- The operation word of a line whose other bits are free. -/
def lineSlot (line : Fin 16) (w : BitVec 12) : Word :=
  slot line (fin8 (w.toNat / 512)) (fin8 (w.toNat / 64)) (fin8 (w.toNat / 8)) (fin8 w.toNat)

theorem lineSlot_toNat (line : Fin 16) (w : BitVec 12) : (lineSlot line w).toNat = line.val * 0x1000 + w.toNat := by
  simp only [lineSlot, slot_toNat, fin8]
  omega

theorem lineSlot_truncate (line : Fin 16) (w : BitVec 12) : (lineSlot line w).truncate 12 = w := by
  apply BitVec.eq_of_toNat_eq
  rw [BitVec.truncate_eq_setWidth, BitVec.toNat_setWidth, lineSlot, slot_toNat]
  exact line_of_fields _ _ w.isLt

theorem decode_opOnly_line {n : Nat} {i : Instr} (line : Fin 16) (w : BitVec 12) (rest : List Byte)
    (hn : n = line.val * 0x1000 + w.toNat)
    (h : readAmong (lineRows line.val) (lineSlot line w) (wordsOf rest) = some (i, wordsOf rest)) :
    decode .m68k (opOnly n ++ rest) = .ok i (opOnly n).length := by
  refine decode_opOnly line _ _ rest _ _ ?_ h
  rw [hn, ← lineSlot_toNat, lineSlot, slot_toNat]

theorem Ea.mode_ne_one_of_not_isAreg {e : Ea} (h : (!(Size.b == .b && e.isAreg)) = true) : e.mode.val ≠ 1 := by
  rw [Ea.isAreg_eq] at h
  simpa using h

/-! ### The instructions

Per instruction, the fields of its row in the operation word: the rows before it in its line differ in a fixed field or refuse
the mode, and its own row reads the fields and the words back. -/

/-- An instruction is read back from its encoding, whatever follows, where it is well formed. -/
def RoundTrips (i : Instr) : Prop :=
  ∀ rest : List Byte, i.wf = true → decode .m68k (encode i ++ rest) = .ok i (encode i).length

theorem roundTrips_oriEa (sz imm ea) : RoundTrips (.oriEa sz imm ea) := by
  intro rest hwf
  obtain ⟨hv, hc⟩ : fits sz imm = true ∧ ea.isDalt = true := Bool.and_eq_true_iff.mp hwf
  have hf := Ea.fits_of_isDalt hc sz
  exact decode_opImmEa 0 0 rest rfl (by cases sz <;> simp [rows0, immEa_words, sizeOf, hv, hc, hf, fin8])

theorem roundTrips_andiEa (sz imm ea) : RoundTrips (.andiEa sz imm ea) := by
  intro rest hwf
  obtain ⟨hv, hc⟩ : fits sz imm = true ∧ ea.isDalt = true := Bool.and_eq_true_iff.mp hwf
  have hf := Ea.fits_of_isDalt hc sz
  exact decode_opImmEa 0 1 rest rfl (by cases sz <;> simp [rows0, immEa_words, sizeOf, hv, hc, hf, fin8])

theorem roundTrips_subiEa (sz imm ea) : RoundTrips (.subiEa sz imm ea) := by
  intro rest hwf
  obtain ⟨hv, hc⟩ : fits sz imm = true ∧ ea.isDalt = true := Bool.and_eq_true_iff.mp hwf
  have hf := Ea.fits_of_isDalt hc sz
  exact decode_opImmEa 0 2 rest rfl (by cases sz <;> simp [rows0, immEa_words, sizeOf, hv, hc, hf, fin8])

theorem roundTrips_addiEa (sz imm ea) : RoundTrips (.addiEa sz imm ea) := by
  intro rest hwf
  obtain ⟨hv, hc⟩ : fits sz imm = true ∧ ea.isDalt = true := Bool.and_eq_true_iff.mp hwf
  have hf := Ea.fits_of_isDalt hc sz
  exact decode_opImmEa 0 3 rest rfl (by cases sz <;> simp [rows0, immEa_words, sizeOf, hv, hc, hf, fin8])

theorem roundTrips_eoriEa (sz imm ea) : RoundTrips (.eoriEa sz imm ea) := by
  intro rest hwf
  obtain ⟨hv, hc⟩ : fits sz imm = true ∧ ea.isDalt = true := Bool.and_eq_true_iff.mp hwf
  have hf := Ea.fits_of_isDalt hc sz
  exact decode_opImmEa 0 5 rest rfl (by cases sz <;> simp [rows0, immEa_words, sizeOf, hv, hc, hf, fin8])

theorem roundTrips_cmpiEa (sz imm ea) : RoundTrips (.cmpiEa sz imm ea) := by
  intro rest hwf
  obtain ⟨hv, hc⟩ : fits sz imm = true ∧ ea.isDalt = true := Bool.and_eq_true_iff.mp hwf
  have hf := Ea.fits_of_isDalt hc sz
  exact decode_opImmEa 0 6 rest rfl (by cases sz <;> simp [rows0, immEa_words, sizeOf, hv, hc, hf, fin8])

theorem roundTrips_oriCcr (imm) : RoundTrips (.oriCcr imm) := by
  intro rest _
  exact decode_opWith 0 0 0 7 4 rest rfl (by simp [rows0, eaIn])

theorem roundTrips_andiCcr (imm) : RoundTrips (.andiCcr imm) := by
  intro rest _
  exact decode_opWith 0 1 0 7 4 rest rfl (by simp [rows0, eaIn])

theorem roundTrips_eoriCcr (imm) : RoundTrips (.eoriCcr imm) := by
  intro rest _
  exact decode_opWith 0 5 0 7 4 rest rfl (by simp [rows0, eaIn])

theorem roundTrips_oriSr (imm) : RoundTrips (.oriSr imm) := by
  intro rest _
  exact decode_opWith 0 0 1 7 4 rest rfl (by simp [rows0, eaIn])

theorem roundTrips_andiSr (imm) : RoundTrips (.andiSr imm) := by
  intro rest _
  exact decode_opWith 0 1 1 7 4 rest rfl (by simp [rows0, eaIn])

theorem roundTrips_eoriSr (imm) : RoundTrips (.eoriSr imm) := by
  intro rest _
  exact decode_opWith 0 5 1 7 4 rest rfl (by simp [rows0, eaIn])

theorem roundTrips_btstN (b ea) : RoundTrips (.btstN b ea) := by
  intro rest hwf
  have hc : ea.isDataNi = true := hwf
  have hf := Ea.fits_of_isDataNi hc .b
  exact decode_opBitEa 0 4 0 rest rfl (by simp [rows0, bitEa_words, hc, hf])

theorem roundTrips_bchgN (b ea) : RoundTrips (.bchgN b ea) := by
  intro rest hwf
  have hc : ea.isDalt = true := hwf
  have hf := Ea.fits_of_isDalt hc .b
  exact decode_opBitEa 0 4 1 rest rfl (by simp [rows0, bitEa_words, hc, hf])

theorem roundTrips_bclrN (b ea) : RoundTrips (.bclrN b ea) := by
  intro rest hwf
  have hc : ea.isDalt = true := hwf
  have hf := Ea.fits_of_isDalt hc .b
  exact decode_opBitEa 0 4 2 rest rfl (by simp [rows0, bitEa_words, hc, hf])

theorem roundTrips_bsetN (b ea) : RoundTrips (.bsetN b ea) := by
  intro rest hwf
  have hc : ea.isDalt = true := hwf
  have hf := Ea.fits_of_isDalt hc .b
  exact decode_opBitEa 0 4 3 rest rfl (by simp [rows0, bitEa_words, hc, hf])

theorem roundTrips_bchgD (n ea) : RoundTrips (.bchgD n ea) := by
  intro rest hwf
  have hc : ea.isDalt = true := hwf
  have hf := Ea.fits_of_isDalt hc .b
  exact decode_opEa 0 n 5 rest (by omega) (by simp [rows0, ea_words, hc, hf])

theorem roundTrips_bclrD (n ea) : RoundTrips (.bclrD n ea) := by
  intro rest hwf
  have hc : ea.isDalt = true := hwf
  have hf := Ea.fits_of_isDalt hc .b
  exact decode_opEa 0 n 6 rest (by omega) (by simp [rows0, ea_words, hc, hf])

theorem roundTrips_bsetD (n ea) : RoundTrips (.bsetD n ea) := by
  intro rest hwf
  have hc : ea.isDalt = true := hwf
  have hf := Ea.fits_of_isDalt hc .b
  exact decode_opEa 0 n 7 rest (by omega) (by simp [rows0, ea_words, hc, hf])

theorem roundTrips_btstD (n ea) : RoundTrips (.btstD n ea) := by
  intro rest hwf
  obtain ⟨hc, hf⟩ : ea.isData = true ∧ ea.fits .b = true := Bool.and_eq_true_iff.mp hwf
  exact decode_opEa 0 n 4 rest (by omega) (by simp [rows0, ea_words, hc, hf])

theorem roundTrips_movep (md x y d) : RoundTrips (.movep md x y d) := by
  intro rest _
  refine decode_opWith 0 x (fin8 (4 + md.code)) 1 y rest ?_ ?_
  · cases md <;> simp [MovepMode.code, fin8] <;> omega
  · cases md <;> simp [rows0, eaIn, MovepMode.code, fin8, movepOf]

theorem roundTrips_moveB (src dst) : RoundTrips (.moveB src dst) := by
  intro rest hwf
  obtain ⟨⟨hf, ha⟩, hd⟩ : (src.fits .b = true ∧ (!src.isAreg) = true) ∧ dst.isDalt = true := by
    simpa only [Instr.wf, Bool.and_eq_true] using hwf
  rw [Ea.isAreg_eq] at ha
  exact decode_opMove 1 rest rfl
    (by simp [rows1, moveEa_words, bne, ha, hd, hf, Ea.fits_of_isDalt hd])

theorem roundTrips_moveL (src dst) : RoundTrips (.moveL src dst) := by
  intro rest hwf
  obtain ⟨hf, hd⟩ : src.fits .l = true ∧ dst.isDalt = true := Bool.and_eq_true_iff.mp hwf
  exact decode_opMove 2 rest rfl (by simp [rows2, moveEa_words, hd, hf, Ea.fits_of_isDalt hd])

theorem roundTrips_moveW (src dst) : RoundTrips (.moveW src dst) := by
  intro rest hwf
  obtain ⟨hf, hd⟩ : src.fits .w = true ∧ dst.isDalt = true := Bool.and_eq_true_iff.mp hwf
  exact decode_opMove 3 rest rfl (by simp [rows3, moveEa_words, hd, hf, Ea.fits_of_isDalt hd])

theorem roundTrips_moveaL (src n) : RoundTrips (.moveaL src n) := by
  intro rest hwf
  have hf : src.fits .l = true := hwf
  exact decode_opEa 2 n 1 rest (by omega) (by simp [rows2, ea_words, hf])

theorem roundTrips_moveaW (src n) : RoundTrips (.moveaW src n) := by
  intro rest hwf
  have hf : src.fits .w = true := hwf
  exact decode_opEa 3 n 1 rest (by omega) (by simp [rows3, ea_words, hf])

theorem roundTrips_negx (sz ea) : RoundTrips (.negx sz ea) := by
  intro rest hwf
  have hc : ea.isDalt = true := hwf
  have hf := Ea.fits_of_isDalt hc sz
  exact decode_opSzEa 4 0 0 rest rfl (by cases sz <;> simp [rows4, szEa_words, sizeOf, hc, hf, fin8])

theorem roundTrips_clr (sz ea) : RoundTrips (.clr sz ea) := by
  intro rest hwf
  have hc : ea.isDalt = true := hwf
  have hf := Ea.fits_of_isDalt hc sz
  exact decode_opSzEa 4 1 0 rest rfl (by cases sz <;> simp [rows4, szEa_words, sizeOf, hc, hf, fin8])

theorem roundTrips_negEa (sz ea) : RoundTrips (.negEa sz ea) := by
  intro rest hwf
  have hc : ea.isDalt = true := hwf
  have hf := Ea.fits_of_isDalt hc sz
  exact decode_opSzEa 4 2 0 rest rfl (by cases sz <;> simp [rows4, szEa_words, sizeOf, hc, hf, fin8])

theorem roundTrips_notEa (sz ea) : RoundTrips (.notEa sz ea) := by
  intro rest hwf
  have hc : ea.isDalt = true := hwf
  have hf := Ea.fits_of_isDalt hc sz
  exact decode_opSzEa 4 3 0 rest rfl (by cases sz <;> simp [rows4, szEa_words, sizeOf, hc, hf, fin8])

theorem roundTrips_tst (sz ea) : RoundTrips (.tst sz ea) := by
  intro rest hwf
  have hc : ea.isDalt = true := hwf
  have hf := Ea.fits_of_isDalt hc sz
  exact decode_opSzEa 4 5 0 rest rfl (by cases sz <;> simp [rows4, szEa_words, sizeOf, hc, hf, fin8])

theorem roundTrips_moveFromSr (ea) : RoundTrips (.moveFromSr ea) := by
  intro rest hwf
  have hc : ea.isDalt = true := hwf
  have hf := Ea.fits_of_isDalt hc .w
  exact decode_opEa 4 0 3 rest rfl (by simp [rows4, ea_words, hc, hf])

theorem roundTrips_moveToCcr (ea) : RoundTrips (.moveToCcr ea) := by
  intro rest hwf
  obtain ⟨hc, hf⟩ : ea.isData = true ∧ ea.fits .w = true := Bool.and_eq_true_iff.mp hwf
  exact decode_opEa 4 2 3 rest rfl (by simp [rows4, ea_words, hc, hf])

theorem roundTrips_moveToSr (ea) : RoundTrips (.moveToSr ea) := by
  intro rest hwf
  obtain ⟨hc, hf⟩ : ea.isData = true ∧ ea.fits .w = true := Bool.and_eq_true_iff.mp hwf
  exact decode_opEa 4 3 3 rest rfl (by simp [rows4, ea_words, hc, hf])

theorem roundTrips_nbcd (ea) : RoundTrips (.nbcd ea) := by
  intro rest hwf
  have hc : ea.isDalt = true := hwf
  have hf := Ea.fits_of_isDalt hc .b
  exact decode_opEa 4 4 0 rest rfl (by simp [rows4, ea_words, hc, hf])

theorem roundTrips_tas (ea) : RoundTrips (.tas ea) := by
  intro rest hwf
  have hc : ea.isDalt = true := hwf
  have hf := Ea.fits_of_isDalt hc .b
  exact decode_opEa 4 5 3 rest rfl (by simp [rows4, ea_words, hc, hf])

theorem roundTrips_pea (ea) : RoundTrips (.pea ea) := by
  intro rest hwf
  have hc : ea.isCtrl = true := hwf
  have hf := Ea.fits_of_isCtrl hc .l
  have hm := Ea.mode_ne_zero_of_isCtrl hc
  exact decode_opEa 4 4 1 rest rfl (by simp [rows4, ea_words, hc, hf, hm])

theorem roundTrips_jsr (ea) : RoundTrips (.jsr ea) := by
  intro rest hwf
  have hc : ea.isCtrl = true := hwf
  have hf := Ea.fits_of_isCtrl hc .l
  exact decode_opEa 4 7 2 rest rfl (by simp [rows4, ea_words, hc, hf])

theorem roundTrips_jmp (ea) : RoundTrips (.jmp ea) := by
  intro rest hwf
  have hc : ea.isCtrl = true := hwf
  have hf := Ea.fits_of_isCtrl hc .l
  exact decode_opEa 4 7 3 rest rfl (by simp [rows4, ea_words, hc, hf])

theorem roundTrips_chk (ea n) : RoundTrips (.chk ea n) := by
  intro rest hwf
  obtain ⟨hc, hf⟩ : ea.isData = true ∧ ea.fits .w = true := Bool.and_eq_true_iff.mp hwf
  exact decode_opEa 4 n 6 rest (by omega) (by simp [rows4, ea_words, hc, hf])

theorem roundTrips_lea (ea n) : RoundTrips (.lea ea n) := by
  intro rest hwf
  have hc : ea.isCtrl = true := hwf
  have hf := Ea.fits_of_isCtrl hc .l
  exact decode_opEa 4 n 7 rest (by omega) (by simp [rows4, ea_words, hc, hf])

theorem roundTrips_swap (n) : RoundTrips (.swap n) := by
  intro rest _
  exact decode_opOnly 4 4 1 rest 0 n (by omega) (by simp [rows4, eaIn])

theorem roundTrips_unlk (n) : RoundTrips (.unlk n) := by
  intro rest _
  exact decode_opOnly 4 7 1 rest 3 n (by omega) (by simp [rows4, eaIn])

theorem roundTrips_moveAnUsp (n) : RoundTrips (.moveAnUsp n) := by
  intro rest _
  exact decode_opOnly 4 7 1 rest 4 n (by omega) (by simp [rows4, eaIn])

theorem roundTrips_moveUspAn (n) : RoundTrips (.moveUspAn n) := by
  intro rest _
  exact decode_opOnly 4 7 1 rest 5 n (by omega) (by simp [rows4, eaIn])

theorem roundTrips_illegal : RoundTrips .illegal := by
  intro rest _
  exact decode_opOnly 4 5 3 rest 7 4 rfl (by simp [rows4, eaIn])

theorem roundTrips_reset : RoundTrips .reset := by
  intro rest _
  exact decode_opOnly 4 7 1 rest 6 0 rfl (by simp [rows4, eaIn])

theorem roundTrips_nopM : RoundTrips .nopM := by
  intro rest _
  exact decode_opOnly 4 7 1 rest 6 1 rfl (by simp [rows4, eaIn])

theorem roundTrips_rte : RoundTrips .rte := by
  intro rest _
  exact decode_opOnly 4 7 1 rest 6 3 rfl (by simp [rows4, eaIn])

theorem roundTrips_rts : RoundTrips .rts := by
  intro rest _
  exact decode_opOnly 4 7 1 rest 6 5 rfl (by simp [rows4, eaIn])

theorem roundTrips_trapv : RoundTrips .trapv := by
  intro rest _
  exact decode_opOnly 4 7 1 rest 6 6 rfl (by simp [rows4, eaIn])

theorem roundTrips_rtr : RoundTrips .rtr := by
  intro rest _
  exact decode_opOnly 4 7 1 rest 6 7 rfl (by simp [rows4, eaIn])

theorem roundTrips_stop (imm) : RoundTrips (.stop imm) := by
  intro rest _
  exact decode_opWith 4 7 1 6 2 rest rfl (by simp [rows4, eaIn])

theorem roundTrips_link (n d) : RoundTrips (.link n d) := by
  intro rest _
  exact decode_opWith 4 7 1 2 n rest (by omega) (by simp [rows4, eaIn])

theorem roundTrips_ext (sz n) : RoundTrips (.ext sz n) := by
  intro rest hwf
  cases sz with
  | b => cases hwf
  | w => exact decode_opOnly 4 4 2 rest 0 n (by simp [Size.codeWL]) (by simp [rows4, eaIn])
  | l => exact decode_opOnly 4 4 3 rest 0 n (by simp [Size.codeWL]) (by simp [rows4, eaIn])

theorem roundTrips_movemStore (sz mask ea) : RoundTrips (.movemStore sz mask ea) := by
  intro rest hwf
  obtain ⟨hs, hc⟩ : (sz != .b) = true ∧ ea.isCaltPd = true := Bool.and_eq_true_iff.mp hwf
  have hf := Ea.fits_of_isCaltPd hc sz
  have hm := Ea.mode_ne_zero_of_isCaltPd hc
  exact decode_movem 4 4 rest rfl (by cases sz <;> simp [rows4, maskEa_words, sizeWL, hc, hf, hm] at hs ⊢)

theorem roundTrips_movemLoad (sz mask ea) : RoundTrips (.movemLoad sz mask ea) := by
  intro rest hwf
  obtain ⟨hs, hc⟩ : (sz != .b) = true ∧ ea.isCtrlPi = true := Bool.and_eq_true_iff.mp hwf
  have hf := Ea.fits_of_isCtrlPi hc sz
  exact decode_movem 4 6 rest rfl (by cases sz <;> simp [rows4, maskEa_words, sizeWL, hc, hf] at hs ⊢)

theorem roundTrips_trap (v) : RoundTrips (.trap v) := by
  intro rest _
  exact decode_opOnly 4 7 1 rest (fin8 (v.val / 8)) (fin8 v.val) (by simp [fin8]; omega)
    (by simp [rows4, eaIn, trapField_and_six, trapSlot_mod])

theorem roundTrips_addq (q sz ea) : RoundTrips (.addq q sz ea) := by
  intro rest hwf
  obtain ⟨hc, ha⟩ : ea.isAlt = true ∧ (!(sz == .b && ea.isAreg)) = true := Bool.and_eq_true_iff.mp hwf
  have hf := Ea.fits_of_isAlt hc sz
  refine decode_opSzEa 5 q 0 rest (by omega) ?_
  cases sz with
  | b => simp [rows5, szEa_words, sizeOf, hc, hf, Ea.mode_ne_one_of_not_isAreg ha, fin8]
  | w => simp [rows5, szEa_words, sizeOf, hc, hf, fin8]
  | l => simp [rows5, szEa_words, sizeOf, hc, hf, fin8]

theorem roundTrips_subq (q sz ea) : RoundTrips (.subq q sz ea) := by
  intro rest hwf
  obtain ⟨hc, ha⟩ : ea.isAlt = true ∧ (!(sz == .b && ea.isAreg)) = true := Bool.and_eq_true_iff.mp hwf
  have hf := Ea.fits_of_isAlt hc sz
  refine decode_opSzEa 5 q 1 rest (by omega) ?_
  cases sz with
  | b => simp [rows5, szEa_words, sizeOf, hc, hf, Ea.mode_ne_one_of_not_isAreg ha, fin8]
  | w => simp [rows5, szEa_words, sizeOf, hc, hf, fin8]
  | l => simp [rows5, szEa_words, sizeOf, hc, hf, fin8]

theorem roundTrips_scc (cond ea) : RoundTrips (.scc cond ea) := by
  intro rest hwf
  have hc : ea.isDalt = true := hwf
  have hf := Ea.fits_of_isDalt hc .b
  exact decode_opEa 5 (fin8 (cond.code / 2)) (fin8 (cond.code % 2 * 4 + 3)) rest (by cases cond <;> rfl)
    (by cases cond <;> simp [rows5, ea_words, hc, hf, Cond16.code, fin8, cond16Of])

theorem roundTrips_dbcc (cond n d) : RoundTrips (.dbcc cond n d) := by
  intro rest _
  exact decode_opWith 5 (fin8 (cond.code / 2)) (fin8 (cond.code % 2 * 4 + 3)) 1 n rest
    (by cases cond <;> simp [Cond16.code, fin8])
    (by cases cond <;> simp [rows5, eaIn, Cond16.code, fin8, cond16Of])

theorem roundTrips_bra (d) : RoundTrips (.bra d) := by
  intro rest hwf
  exact decode_opBranch 0 0 hwf (fun _ d => .bra d) .bra rest rfl (fun _ _ => rfl) (by simp [rows6, byteSlot, byteField_and_four])

theorem roundTrips_bsr (d) : RoundTrips (.bsr d) := by
  intro rest hwf
  exact decode_opBranch 0 1 hwf (fun _ d => .bsr d) .bsr rest rfl (fun _ _ => rfl) (by simp [rows6, byteSlot, byteField_and_four])

theorem roundTrips_bcc (cond d) : RoundTrips (.bcc cond d) := by
  intro rest hwf
  obtain ⟨hcond, hd⟩ : (cond != .t && cond != .f) = true ∧ d.wf = true := Bool.and_eq_true_iff.mp hwf
  refine decode_opBranch (fin8 (cond.code / 2)) ⟨cond.code % 2, Nat.mod_lt _ (by decide)⟩ hd
    (fun w d => .bcc (cond16Of (fieldOf w 11 8)) d) (.bcc cond) rest (by cases cond <;> rfl) ?_ ?_
  · intro b d
    simp only [byteSlot, fieldOf_slot_cond, byteField_bit8]
    cases cond <;> rfl
  · intro b ext
    cases cond <;> simp [rows6, byteSlot, byteField_and_four, byteField_bit8, fin8, Cond16.code] at hcond ⊢

theorem roundTrips_moveq (v n) : RoundTrips (.moveq v n) := by
  intro rest _
  exact decode_opOnly_byte 7 n 0 v rest (by omega)
    (by simp [rows7, byteSlot_truncate]; simp [byteSlot, byteField_and_four])

theorem roundTrips_orEaD (sz ea n) : RoundTrips (.orEaD sz ea n) := by
  intro rest hwf
  obtain ⟨hc, hf⟩ : ea.isData = true ∧ ea.fits sz = true := Bool.and_eq_true_iff.mp hwf
  exact decode_opSzEa 8 n 0 rest (by omega) (by cases sz <;> simp [rows8, szEa_words, sizeOf, hc, hf, fin8])

theorem roundTrips_andEaD (sz ea n) : RoundTrips (.andEaD sz ea n) := by
  intro rest hwf
  obtain ⟨hc, hf⟩ : ea.isData = true ∧ ea.fits sz = true := Bool.and_eq_true_iff.mp hwf
  exact decode_opSzEa 12 n 0 rest (by omega) (by cases sz <;> simp [rowsC, szEa_words, sizeOf, hc, hf, fin8])

theorem roundTrips_orDEa (sz n ea) : RoundTrips (.orDEa sz n ea) := by
  intro rest hwf
  have hc : ea.isMalt = true := hwf
  have hf := Ea.fits_of_isMalt hc sz
  exact decode_opSzEa 8 n 1 rest (by omega) (by cases sz <;> simp [rows8, szEa_words, sizeOf, hc, hf, fin8])

theorem roundTrips_subDEa (sz n ea) : RoundTrips (.subDEa sz n ea) := by
  intro rest hwf
  have hc : ea.isMalt = true := hwf
  have hf := Ea.fits_of_isMalt hc sz
  exact decode_opSzEa 9 n 1 rest (by omega) (by cases sz <;> simp [rows9, szEa_words, sizeOf, hc, hf, fin8])

theorem roundTrips_andDEa (sz n ea) : RoundTrips (.andDEa sz n ea) := by
  intro rest hwf
  have hc : ea.isMalt = true := hwf
  have hf := Ea.fits_of_isMalt hc sz
  exact decode_opSzEa 12 n 1 rest (by omega) (by cases sz <;> simp [rowsC, szEa_words, sizeOf, hc, hf, fin8])

theorem roundTrips_addDEa (sz n ea) : RoundTrips (.addDEa sz n ea) := by
  intro rest hwf
  have hc : ea.isMalt = true := hwf
  have hf := Ea.fits_of_isMalt hc sz
  exact decode_opSzEa 13 n 1 rest (by omega) (by cases sz <;> simp [rowsD, szEa_words, sizeOf, hc, hf, fin8])

theorem roundTrips_eorDEa (sz n ea) : RoundTrips (.eorDEa sz n ea) := by
  intro rest hwf
  have hc : ea.isDalt = true := hwf
  have hf := Ea.fits_of_isDalt hc sz
  exact decode_opSzEa 11 n 1 rest (by omega) (by cases sz <;> simp [rowsB, szEa_words, sizeOf, hc, hf, fin8])

theorem roundTrips_divu (ea n) : RoundTrips (.divu ea n) := by
  intro rest hwf
  obtain ⟨hc, hf⟩ : ea.isData = true ∧ ea.fits .w = true := Bool.and_eq_true_iff.mp hwf
  exact decode_opEa 8 n 3 rest (by omega) (by simp [rows8, ea_words, hc, hf])

theorem roundTrips_divs (ea n) : RoundTrips (.divs ea n) := by
  intro rest hwf
  obtain ⟨hc, hf⟩ : ea.isData = true ∧ ea.fits .w = true := Bool.and_eq_true_iff.mp hwf
  exact decode_opEa 8 n 7 rest (by omega) (by simp [rows8, ea_words, hc, hf])

theorem roundTrips_mulu (ea n) : RoundTrips (.mulu ea n) := by
  intro rest hwf
  obtain ⟨hc, hf⟩ : ea.isData = true ∧ ea.fits .w = true := Bool.and_eq_true_iff.mp hwf
  exact decode_opEa 12 n 3 rest (by omega) (by simp [rowsC, ea_words, hc, hf])

theorem roundTrips_muls (ea n) : RoundTrips (.muls ea n) := by
  intro rest hwf
  obtain ⟨hc, hf⟩ : ea.isData = true ∧ ea.fits .w = true := Bool.and_eq_true_iff.mp hwf
  exact decode_opEa 12 n 7 rest (by omega) (by simp [rowsC, ea_words, hc, hf])

theorem roundTrips_subEaD (sz ea n) : RoundTrips (.subEaD sz ea n) := by
  intro rest hwf
  obtain ⟨hf, ha⟩ : ea.fits sz = true ∧ (!(sz == .b && ea.isAreg)) = true := Bool.and_eq_true_iff.mp hwf
  refine decode_opSzEa 9 n 0 rest (by omega) ?_
  cases sz with
  | b => simp [rows9, szEa_words, sizeOf, hf, Ea.mode_ne_one_of_not_isAreg ha, fin8]
  | w => simp [rows9, szEa_words, sizeOf, hf, fin8]
  | l => simp [rows9, szEa_words, sizeOf, hf, fin8]

theorem roundTrips_cmpEaD (sz ea n) : RoundTrips (.cmpEaD sz ea n) := by
  intro rest hwf
  obtain ⟨hf, ha⟩ : ea.fits sz = true ∧ (!(sz == .b && ea.isAreg)) = true := Bool.and_eq_true_iff.mp hwf
  refine decode_opSzEa 11 n 0 rest (by omega) ?_
  cases sz with
  | b => simp [rowsB, szEa_words, sizeOf, hf, Ea.mode_ne_one_of_not_isAreg ha, fin8]
  | w => simp [rowsB, szEa_words, sizeOf, hf, fin8]
  | l => simp [rowsB, szEa_words, sizeOf, hf, fin8]

theorem roundTrips_addEaD (sz ea n) : RoundTrips (.addEaD sz ea n) := by
  intro rest hwf
  obtain ⟨hf, ha⟩ : ea.fits sz = true ∧ (!(sz == .b && ea.isAreg)) = true := Bool.and_eq_true_iff.mp hwf
  refine decode_opSzEa 13 n 0 rest (by omega) ?_
  cases sz with
  | b => simp [rowsD, szEa_words, sizeOf, hf, Ea.mode_ne_one_of_not_isAreg ha, fin8]
  | w => simp [rowsD, szEa_words, sizeOf, hf, fin8]
  | l => simp [rowsD, szEa_words, sizeOf, hf, fin8]

theorem roundTrips_suba (sz ea n) : RoundTrips (.suba sz ea n) := by
  intro rest hwf
  obtain ⟨hs, hf⟩ : (sz != .b) = true ∧ ea.fits sz = true := Bool.and_eq_true_iff.mp hwf
  cases sz with
  | b => cases hs
  | w => exact decode_opEa 9 n 3 rest (by simp [Size.codeWL]; omega) (by simp [rows9, eaWL_words_w, hf])
  | l => exact decode_opEa 9 n 7 rest (by simp [Size.codeWL]; omega) (by simp [rows9, eaWL_words_l, hf])

theorem roundTrips_cmpa (sz ea n) : RoundTrips (.cmpa sz ea n) := by
  intro rest hwf
  obtain ⟨hs, hf⟩ : (sz != .b) = true ∧ ea.fits sz = true := Bool.and_eq_true_iff.mp hwf
  cases sz with
  | b => cases hs
  | w => exact decode_opEa 11 n 3 rest (by simp [Size.codeWL]; omega) (by simp [rowsB, eaWL_words_w, hf])
  | l => exact decode_opEa 11 n 7 rest (by simp [Size.codeWL]; omega) (by simp [rowsB, eaWL_words_l, hf])

theorem roundTrips_adda (sz ea n) : RoundTrips (.adda sz ea n) := by
  intro rest hwf
  obtain ⟨hs, hf⟩ : (sz != .b) = true ∧ ea.fits sz = true := Bool.and_eq_true_iff.mp hwf
  cases sz with
  | b => cases hs
  | w => exact decode_opEa 13 n 3 rest (by simp [Size.codeWL]; omega) (by simp [rowsD, eaWL_words_w, hf])
  | l => exact decode_opEa 13 n 7 rest (by simp [Size.codeWL]; omega) (by simp [rowsD, eaWL_words_l, hf])

theorem roundTrips_sbcd (f y x) : RoundTrips (.sbcd f y x) := by
  intro rest _
  cases f with
  | regs => exact decode_opOnly 8 x 4 rest 0 y (by simp [XForm.code]; omega) (by simp [rows8, eaIn, xformOf])
  | mem => exact decode_opOnly 8 x 4 rest 1 y (by simp [XForm.code]; omega) (by simp [rows8, eaIn, xformOf])

theorem roundTrips_abcd (f y x) : RoundTrips (.abcd f y x) := by
  intro rest _
  cases f with
  | regs => exact decode_opOnly 12 x 4 rest 0 y (by simp [XForm.code]; omega) (by simp [rowsC, eaIn, xformOf])
  | mem => exact decode_opOnly 12 x 4 rest 1 y (by simp [XForm.code]; omega) (by simp [rowsC, eaIn, xformOf])

theorem roundTrips_subx (sz f y x) : RoundTrips (.subx sz f y x) := by
  intro rest _
  refine decode_opOnly 9 x (sz.opField 1) rest (fin8 f.code) y ?_ ?_
  · rw [Size.opField_val]
    cases f <;> simp [XForm.code, fin8] <;> omega
  · cases f <;> cases sz <;> simp [rows9, eaIn, XForm.code, fin8, xformOf]

theorem roundTrips_addx (sz f y x) : RoundTrips (.addx sz f y x) := by
  intro rest _
  refine decode_opOnly 13 x (sz.opField 1) rest (fin8 f.code) y ?_ ?_
  · rw [Size.opField_val]
    cases f <;> simp [XForm.code, fin8] <;> omega
  · cases f <;> cases sz <;> simp [rowsD, eaIn, XForm.code, fin8, xformOf]

theorem roundTrips_cmpm (sz y x) : RoundTrips (.cmpm sz y x) := by
  intro rest _
  refine decode_opOnly 11 x (sz.opField 1) rest 1 y ?_ ?_
  · rw [Size.opField_val]
    simp
    omega
  · cases sz <;> simp [rowsB, eaIn, fin8]

theorem roundTrips_exgDD (x y) : RoundTrips (.exgDD x y) := by
  intro rest _
  exact decode_opOnly 12 x 5 rest 0 y (by omega) (by simp [rowsC, eaIn])

theorem roundTrips_exgAA (x y) : RoundTrips (.exgAA x y) := by
  intro rest _
  exact decode_opOnly 12 x 5 rest 1 y (by omega) (by simp [rowsC, eaIn])

theorem roundTrips_exgDA (x y) : RoundTrips (.exgDA x y) := by
  intro rest _
  exact decode_opOnly 12 x 6 rest 1 y (by omega) (by simp [rowsC, eaIn])

theorem roundTrips_asrReg (sz k n) : RoundTrips (.asrReg sz k n) := by
  intro rest _
  exact decode_opShift 0 0 rest rfl (by cases k <;> cases sz <;> simp [rowsE, ShiftCount.regField, ShiftCount.modeOver, shiftReg_slot, fin8])

theorem roundTrips_aslReg (sz k n) : RoundTrips (.aslReg sz k n) := by
  intro rest _
  exact decode_opShift 1 0 rest rfl (by cases k <;> cases sz <;> simp [rowsE, ShiftCount.regField, ShiftCount.modeOver, shiftReg_slot, fin8])

theorem roundTrips_lsrReg (sz k n) : RoundTrips (.lsrReg sz k n) := by
  intro rest _
  exact decode_opShift 0 1 rest rfl (by cases k <;> cases sz <;> simp [rowsE, ShiftCount.regField, ShiftCount.modeOver, shiftReg_slot, fin8])

theorem roundTrips_lslReg (sz k n) : RoundTrips (.lslReg sz k n) := by
  intro rest _
  exact decode_opShift 1 1 rest rfl (by cases k <;> cases sz <;> simp [rowsE, ShiftCount.regField, ShiftCount.modeOver, shiftReg_slot, fin8])

theorem roundTrips_roxrReg (sz k n) : RoundTrips (.roxrReg sz k n) := by
  intro rest _
  exact decode_opShift 0 2 rest rfl (by cases k <;> cases sz <;> simp [rowsE, ShiftCount.regField, ShiftCount.modeOver, shiftReg_slot, fin8])

theorem roundTrips_roxlReg (sz k n) : RoundTrips (.roxlReg sz k n) := by
  intro rest _
  exact decode_opShift 1 2 rest rfl (by cases k <;> cases sz <;> simp [rowsE, ShiftCount.regField, ShiftCount.modeOver, shiftReg_slot, fin8])

theorem roundTrips_rorReg (sz k n) : RoundTrips (.rorReg sz k n) := by
  intro rest _
  exact decode_opShift 0 3 rest rfl (by cases k <;> cases sz <;> simp [rowsE, ShiftCount.regField, ShiftCount.modeOver, shiftReg_slot, fin8])

theorem roundTrips_rolReg (sz k n) : RoundTrips (.rolReg sz k n) := by
  intro rest _
  exact decode_opShift 1 3 rest rfl (by cases k <;> cases sz <;> simp [rowsE, ShiftCount.regField, ShiftCount.modeOver, shiftReg_slot, fin8])

theorem roundTrips_asrMem (ea) : RoundTrips (.asrMem ea) := by
  intro rest hwf
  have hc : ea.isMalt = true := hwf
  have hf := Ea.fits_of_isMalt hc .w
  exact decode_opEa 14 0 3 rest rfl (by simp [rowsE, ea_words, hc, hf])

theorem roundTrips_aslMem (ea) : RoundTrips (.aslMem ea) := by
  intro rest hwf
  have hc : ea.isMalt = true := hwf
  have hf := Ea.fits_of_isMalt hc .w
  exact decode_opEa 14 0 7 rest rfl (by simp [rowsE, ea_words, hc, hf])

theorem roundTrips_lsrMem (ea) : RoundTrips (.lsrMem ea) := by
  intro rest hwf
  have hc : ea.isMalt = true := hwf
  have hf := Ea.fits_of_isMalt hc .w
  exact decode_opEa 14 1 3 rest rfl (by simp [rowsE, ea_words, hc, hf])

theorem roundTrips_lslMem (ea) : RoundTrips (.lslMem ea) := by
  intro rest hwf
  have hc : ea.isMalt = true := hwf
  have hf := Ea.fits_of_isMalt hc .w
  exact decode_opEa 14 1 7 rest rfl (by simp [rowsE, ea_words, hc, hf])

theorem roundTrips_roxrMem (ea) : RoundTrips (.roxrMem ea) := by
  intro rest hwf
  have hc : ea.isMalt = true := hwf
  have hf := Ea.fits_of_isMalt hc .w
  exact decode_opEa 14 2 3 rest rfl (by simp [rowsE, ea_words, hc, hf])

theorem roundTrips_roxlMem (ea) : RoundTrips (.roxlMem ea) := by
  intro rest hwf
  have hc : ea.isMalt = true := hwf
  have hf := Ea.fits_of_isMalt hc .w
  exact decode_opEa 14 2 7 rest rfl (by simp [rowsE, ea_words, hc, hf])

theorem roundTrips_rorMem (ea) : RoundTrips (.rorMem ea) := by
  intro rest hwf
  have hc : ea.isMalt = true := hwf
  have hf := Ea.fits_of_isMalt hc .w
  exact decode_opEa 14 3 3 rest rfl (by simp [rowsE, ea_words, hc, hf])

theorem roundTrips_rolMem (ea) : RoundTrips (.rolMem ea) := by
  intro rest hwf
  have hc : ea.isMalt = true := hwf
  have hf := Ea.fits_of_isMalt hc .w
  exact decode_opEa 14 3 7 rest rfl (by simp [rowsE, ea_words, hc, hf])

theorem roundTrips_lineA (w) : RoundTrips (.lineA w) := by
  intro rest _
  exact decode_opOnly_line 10 w rest (by omega) (by simp [rowsA, lineSlot_truncate]; simp [lineSlot])

theorem roundTrips_lineF (w) : RoundTrips (.lineF w) := by
  intro rest _
  exact decode_opOnly_line 15 w rest (by omega) (by simp [rowsF, lineSlot_truncate]; simp [lineSlot])

/-- Settles O46: every 68000 instruction is read back by the row of its operation word. -/
theorem roundTripM68k : Obligations.RoundTripM68k := by
  intro i rest hcpu hwf
  cases i with
  | oriEa sz imm ea => exact roundTrips_oriEa sz imm ea rest hwf
  | andiEa sz imm ea => exact roundTrips_andiEa sz imm ea rest hwf
  | subiEa sz imm ea => exact roundTrips_subiEa sz imm ea rest hwf
  | addiEa sz imm ea => exact roundTrips_addiEa sz imm ea rest hwf
  | eoriEa sz imm ea => exact roundTrips_eoriEa sz imm ea rest hwf
  | cmpiEa sz imm ea => exact roundTrips_cmpiEa sz imm ea rest hwf
  | oriCcr imm => exact roundTrips_oriCcr imm rest hwf
  | andiCcr imm => exact roundTrips_andiCcr imm rest hwf
  | eoriCcr imm => exact roundTrips_eoriCcr imm rest hwf
  | oriSr imm => exact roundTrips_oriSr imm rest hwf
  | andiSr imm => exact roundTrips_andiSr imm rest hwf
  | eoriSr imm => exact roundTrips_eoriSr imm rest hwf
  | btstN b ea => exact roundTrips_btstN b ea rest hwf
  | bchgN b ea => exact roundTrips_bchgN b ea rest hwf
  | bclrN b ea => exact roundTrips_bclrN b ea rest hwf
  | bsetN b ea => exact roundTrips_bsetN b ea rest hwf
  | bchgD n ea => exact roundTrips_bchgD n ea rest hwf
  | bclrD n ea => exact roundTrips_bclrD n ea rest hwf
  | bsetD n ea => exact roundTrips_bsetD n ea rest hwf
  | btstD n ea => exact roundTrips_btstD n ea rest hwf
  | movep md x y d => exact roundTrips_movep md x y d rest hwf
  | moveB src dst => exact roundTrips_moveB src dst rest hwf
  | moveL src dst => exact roundTrips_moveL src dst rest hwf
  | moveW src dst => exact roundTrips_moveW src dst rest hwf
  | moveaL src n => exact roundTrips_moveaL src n rest hwf
  | moveaW src n => exact roundTrips_moveaW src n rest hwf
  | negx sz ea => exact roundTrips_negx sz ea rest hwf
  | clr sz ea => exact roundTrips_clr sz ea rest hwf
  | negEa sz ea => exact roundTrips_negEa sz ea rest hwf
  | notEa sz ea => exact roundTrips_notEa sz ea rest hwf
  | tst sz ea => exact roundTrips_tst sz ea rest hwf
  | moveFromSr ea => exact roundTrips_moveFromSr ea rest hwf
  | moveToCcr ea => exact roundTrips_moveToCcr ea rest hwf
  | moveToSr ea => exact roundTrips_moveToSr ea rest hwf
  | nbcd ea => exact roundTrips_nbcd ea rest hwf
  | tas ea => exact roundTrips_tas ea rest hwf
  | pea ea => exact roundTrips_pea ea rest hwf
  | jsr ea => exact roundTrips_jsr ea rest hwf
  | jmp ea => exact roundTrips_jmp ea rest hwf
  | chk ea n => exact roundTrips_chk ea n rest hwf
  | lea ea n => exact roundTrips_lea ea n rest hwf
  | swap n => exact roundTrips_swap n rest hwf
  | unlk n => exact roundTrips_unlk n rest hwf
  | moveAnUsp n => exact roundTrips_moveAnUsp n rest hwf
  | moveUspAn n => exact roundTrips_moveUspAn n rest hwf
  | illegal => exact roundTrips_illegal rest hwf
  | reset => exact roundTrips_reset rest hwf
  | nopM => exact roundTrips_nopM rest hwf
  | rte => exact roundTrips_rte rest hwf
  | rts => exact roundTrips_rts rest hwf
  | trapv => exact roundTrips_trapv rest hwf
  | rtr => exact roundTrips_rtr rest hwf
  | stop imm => exact roundTrips_stop imm rest hwf
  | link n d => exact roundTrips_link n d rest hwf
  | ext sz n => exact roundTrips_ext sz n rest hwf
  | movemStore sz mask ea => exact roundTrips_movemStore sz mask ea rest hwf
  | movemLoad sz mask ea => exact roundTrips_movemLoad sz mask ea rest hwf
  | trap v => exact roundTrips_trap v rest hwf
  | addq q sz ea => exact roundTrips_addq q sz ea rest hwf
  | subq q sz ea => exact roundTrips_subq q sz ea rest hwf
  | scc cond ea => exact roundTrips_scc cond ea rest hwf
  | dbcc cond n d => exact roundTrips_dbcc cond n d rest hwf
  | bra d => exact roundTrips_bra d rest hwf
  | bsr d => exact roundTrips_bsr d rest hwf
  | bcc cond d => exact roundTrips_bcc cond d rest hwf
  | moveq v n => exact roundTrips_moveq v n rest hwf
  | orEaD sz ea n => exact roundTrips_orEaD sz ea n rest hwf
  | andEaD sz ea n => exact roundTrips_andEaD sz ea n rest hwf
  | orDEa sz n ea => exact roundTrips_orDEa sz n ea rest hwf
  | subDEa sz n ea => exact roundTrips_subDEa sz n ea rest hwf
  | andDEa sz n ea => exact roundTrips_andDEa sz n ea rest hwf
  | addDEa sz n ea => exact roundTrips_addDEa sz n ea rest hwf
  | eorDEa sz n ea => exact roundTrips_eorDEa sz n ea rest hwf
  | divu ea n => exact roundTrips_divu ea n rest hwf
  | divs ea n => exact roundTrips_divs ea n rest hwf
  | mulu ea n => exact roundTrips_mulu ea n rest hwf
  | muls ea n => exact roundTrips_muls ea n rest hwf
  | subEaD sz ea n => exact roundTrips_subEaD sz ea n rest hwf
  | cmpEaD sz ea n => exact roundTrips_cmpEaD sz ea n rest hwf
  | addEaD sz ea n => exact roundTrips_addEaD sz ea n rest hwf
  | suba sz ea n => exact roundTrips_suba sz ea n rest hwf
  | cmpa sz ea n => exact roundTrips_cmpa sz ea n rest hwf
  | adda sz ea n => exact roundTrips_adda sz ea n rest hwf
  | sbcd f y x => exact roundTrips_sbcd f y x rest hwf
  | abcd f y x => exact roundTrips_abcd f y x rest hwf
  | subx sz f y x => exact roundTrips_subx sz f y x rest hwf
  | addx sz f y x => exact roundTrips_addx sz f y x rest hwf
  | cmpm sz y x => exact roundTrips_cmpm sz y x rest hwf
  | exgDD x y => exact roundTrips_exgDD x y rest hwf
  | exgAA x y => exact roundTrips_exgAA x y rest hwf
  | exgDA x y => exact roundTrips_exgDA x y rest hwf
  | asrReg sz k n => exact roundTrips_asrReg sz k n rest hwf
  | aslReg sz k n => exact roundTrips_aslReg sz k n rest hwf
  | lsrReg sz k n => exact roundTrips_lsrReg sz k n rest hwf
  | lslReg sz k n => exact roundTrips_lslReg sz k n rest hwf
  | roxrReg sz k n => exact roundTrips_roxrReg sz k n rest hwf
  | roxlReg sz k n => exact roundTrips_roxlReg sz k n rest hwf
  | rorReg sz k n => exact roundTrips_rorReg sz k n rest hwf
  | rolReg sz k n => exact roundTrips_rolReg sz k n rest hwf
  | asrMem ea => exact roundTrips_asrMem ea rest hwf
  | aslMem ea => exact roundTrips_aslMem ea rest hwf
  | lsrMem ea => exact roundTrips_lsrMem ea rest hwf
  | lslMem ea => exact roundTrips_lslMem ea rest hwf
  | roxrMem ea => exact roundTrips_roxrMem ea rest hwf
  | roxlMem ea => exact roundTrips_roxlMem ea rest hwf
  | rorMem ea => exact roundTrips_rorMem ea rest hwf
  | rolMem ea => exact roundTrips_rolMem ea rest hwf
  | lineA w => exact roundTrips_lineA w rest hwf
  | lineF w => exact roundTrips_lineF w rest hwf
  | _ => cases hcpu

end Sys2Proof
end

section
/-! PROOFS. What a decoder reads is a well-formed instruction of its CPU (30_encoding.md R253, R281, R282): the Z80 maps by their
cases, the 68000 rows by what their constraints say of the fields their readers use. -/

namespace Sys2Proof

/-! ### The Z80 maps -/

/-- The Boolean of O47 for the Z80: an instruction that was decoded is well formed and the Z80's. -/
def Decoded.good : Decoded → Bool
  | .ok i _ => i.wf && decide (i.cpu = .z80)
  | _ => true

@[simp] theorem Decoded.good_short : Decoded.short.good = true := rfl

theorem decodePrimary0_good (y z : Nat) (bs : List Byte) : (decodePrimary0 y z bs).good = true := by
  unfold decodePrimary0 withNn with2 with1
  dsimp only
  repeat' split
  all_goals rfl

theorem decodePrimary1_good (y z : Nat) : (decodePrimary1 y z).good = true := by
  unfold decodePrimary1
  split <;> rfl

theorem decodePrimary3_good (op y z : Nat) (bs : List Byte) : (decodePrimary3 op y z bs).good = true := by
  unfold decodePrimary3 withNn with2 with1 aluImm
  dsimp only
  repeat' split
  all_goals rfl

theorem aluReg_good (y n : Nat) (r : Reg8) : (Decoded.ok (aluReg y r) n).good = true := by
  unfold aluReg
  split <;> rfl

theorem aluHl_good (y n : Nat) : (Decoded.ok (aluHl y) n).good = true := by
  unfold aluHl
  split <;> rfl

theorem decodePrimary_good (op : Nat) (bs : List Byte) : (decodePrimary op bs).good = true := by
  unfold decodePrimary
  dsimp only
  split
  · exact decodePrimary0_good _ _ _
  · exact decodePrimary1_good _ _
  · split
    · exact aluReg_good _ _ _
    · exact aluHl_good _ _
  · exact decodePrimary3_good _ _ _ _

theorem decodeCb_good (op : Nat) : (decodeCb op).good = true := by
  unfold decodeCb
  dsimp only
  repeat' split
  all_goals rfl

theorem decodeEd1_good (op y z : Nat) (bs : List Byte) : (decodeEd1 op y z bs).good = true := by
  unfold decodeEd1 withNn with2
  dsimp only
  repeat' split
  all_goals rfl

theorem decodeEd_good (op : Nat) (bs : List Byte) : (decodeEd op bs).good = true := by
  unfold decodeEd
  split
  case h_17 =>
    split
    · exact decodeEd1_good _ _ _ _
    · rfl
  all_goals rfl

theorem decodeIdx_good (ii : IndexReg) (op : Nat) (bs : List Byte) : (decodeIdx ii op bs).good = true := by
  cases ii
  all_goals
    unfold decodeIdx withNn with2 with1 aluIdx
    dsimp only
    repeat' split
    all_goals rfl

theorem decodeIdxCb_good (ii : IndexReg) (d : Byte) (op : Nat) : (decodeIdxCb ii d op).good = true := by
  cases ii
  all_goals
    unfold decodeIdxCb
    dsimp only
    repeat' split
    all_goals rfl

theorem decodeIndexed_good (ii : IndexReg) (bs : List Byte) : (decodeIndexed ii bs).good = true := by
  unfold decodeIndexed
  split
  · exact decodeIdxCb_good _ _ _
  · split
    · rfl
    · exact decodeIdx_good _ _ _
  · rfl

theorem decodeZ80_good (bs : List Byte) : (decodeZ80 bs).good = true := by
  unfold decodeZ80 with1
  repeat' split
  all_goals simp only [decodeCb_good, decodeEd_good, decodeIndexed_good, decodePrimary_good, Decoded.good_short]

/-! ### What the 68000 readers read -/

/-- The category of an effective address (R282), as the rows name it. -/
def Ea.inCat (e : Ea) : EaCat → Bool
  | .all => true
  | .data => e.isData
  | .dataNi => e.isDataNi
  | .dalt => e.isDalt
  | .malt => e.isMalt
  | .alt => e.isAlt
  | .ctrl => e.isCtrl
  | .caltPd => e.isCaltPd
  | .ctrlPi => e.isCtrlPi

theorem Ea.eaIn_eq_inCat (e : Ea) (cat : EaCat) : eaIn cat e.mode.val e.reg.val = e.inCat cat := by
  cases cat <;> simp [Ea.inCat]

theorem readImm_fits {sz : Size} {ext rest : List Word} {v : Long} (h : readImm sz ext = some (v, rest)) :
    fits sz v = true := by
  apply decide_eq_true
  unfold readImm at h
  split at h
  · split at h
    · cases h
      simp only [Size.bytes, BitVec.truncate_eq_setWidth, BitVec.toNat_setWidth]
      omega
    · cases h
      simp only [Size.bytes, BitVec.toNat_setWidth]
      omega
    · exact v.isLt
    · cases h
  · cases h

/-- An effective address is read with the numbers of its field, and fits the size (R277, R279, R280). -/
theorem readEa_eq_some {m r : Nat} {sz : Size} {ext rest : List Word} {e : Ea} (hm : m < 8) (hr : r < 8)
    (h : readEa m r sz ext = some (e, rest)) : e.mode.val = m ∧ e.reg.val = r ∧ e.fits sz = true := by
  have hreg : (fin8 r).val = r := Nat.mod_eq_of_lt hr
  unfold readEa at h
  split at h
  iterate 5 · cases h; exact ⟨rfl, hreg, rfl⟩
  iterate 2
    · split at h
      · cases h; exact ⟨rfl, hreg, rfl⟩
      · cases h
  · next h0 h1 h2 h3 h4 h5 h6 =>
    have h7 : 7 = m := by
      simp only [imp_false] at h0 h1 h2 h3 h4 h5 h6
      omega
    subst h7
    split at h
    iterate 4 · cases h; exact ⟨rfl, rfl, rfl⟩
    · split at h
      · next himm => cases h; exact ⟨rfl, rfl, readImm_fits himm⟩
      · cases h
    · cases h

theorem fieldOf_lt (w : Word) (hi lo : Nat) : fieldOf w hi lo < 2 ^ (hi - lo + 1) :=
  Nat.mod_lt _ (Nat.two_pow_pos _)

section Readers

variable {w : Word} {ext rest : List Word} {i : Instr}

theorem readEa_field {sz : Size} {e : Ea} (h : readEa (fieldOf w 5 3) (fieldOf w 2 0) sz ext = some (e, rest)) :
    e.mode.val = fieldOf w 5 3 ∧ e.fits sz = true ∧ ∀ cat, eaOk cat w = e.inCat cat := by
  obtain ⟨hm, hr, hf⟩ := readEa_eq_some (fieldOf_lt w 5 3) (fieldOf_lt w 2 0) h
  refine ⟨hm, hf, fun cat => ?_⟩
  rw [eaOk, ← hm, ← hr, e.eaIn_eq_inCat]

theorem eaAt_eq_some {sz : Word → Size} {k : Word → Ea → Instr} (h : eaAt sz k w ext = some (i, rest)) :
    ∃ e : Ea, e.mode.val = fieldOf w 5 3 ∧ e.fits (sz w) = true ∧ (∀ cat, eaOk cat w = e.inCat cat) ∧ i = k w e := by
  unfold eaAt at h
  split at h
  · next he =>
    obtain ⟨hm, hf, hcat⟩ := readEa_field he
    cases h
    exact ⟨_, hm, hf, hcat, rfl⟩
  · cases h

theorem szEa_eq_some {k : Size → Word → Ea → Instr} (h : szEa k w ext = some (i, rest)) :
    ∃ e : Ea, e.mode.val = fieldOf w 5 3 ∧ e.fits (sizeOf (fieldOf w 7 6)) = true ∧ (∀ cat, eaOk cat w = e.inCat cat) ∧
      i = k (sizeOf (fieldOf w 7 6)) w e :=
  eaAt_eq_some h

theorem immEa_eq_some {k : Size → Long → Ea → Instr} (h : immEa k w ext = some (i, rest)) :
    ∃ (sz : Size) (v : Long) (e : Ea), fits sz v = true ∧ (∀ cat, eaOk cat w = e.inCat cat) ∧ i = k sz v e := by
  unfold immEa at h
  dsimp only at h
  split at h
  · next hv =>
    split at h
    · next he =>
      obtain ⟨-, -, hcat⟩ := readEa_field he
      cases h
      exact ⟨_, _, _, readImm_fits hv, hcat, rfl⟩
    · cases h
  · cases h

theorem bitEa_eq_some {k : Byte → Ea → Instr} (h : bitEa k w ext = some (i, rest)) :
    ∃ (b : Byte) (e : Ea), (∀ cat, eaOk cat w = e.inCat cat) ∧ i = k b e := by
  unfold bitEa at h
  split at h
  · split at h
    · next he =>
      obtain ⟨-, -, hcat⟩ := readEa_field he
      cases h
      exact ⟨_, _, hcat, rfl⟩
    · cases h
  · cases h

theorem maskEa_eq_some {k : Size → Word → Ea → Instr} (h : maskEa k w ext = some (i, rest)) :
    ∃ (n : Nat) (m : Word) (e : Ea), (∀ cat, eaOk cat w = e.inCat cat) ∧ i = k (sizeWL n) m e := by
  unfold maskEa at h
  split at h
  · split at h
    · next he =>
      obtain ⟨-, -, hcat⟩ := readEa_field he
      cases h
      exact ⟨_, _, _, hcat, rfl⟩
    · cases h
  · cases h

theorem moveEa_eq_some {sz : Size} {k : Ea → Ea → Instr} (h : moveEa sz k w ext = some (i, rest)) :
    ∃ s d : Ea, s.mode.val = fieldOf w 5 3 ∧ s.fits sz = true ∧
      (moveOk w = true → d.isDalt = true) ∧ i = k s d := by
  unfold moveEa at h
  split at h
  · next hs =>
    split at h
    · next hd =>
      obtain ⟨hm, hf, -⟩ := readEa_field hs
      obtain ⟨hdm, hdr, -⟩ := readEa_eq_some (fieldOf_lt w 8 6) (fieldOf_lt w 11 9) hd
      cases h
      refine ⟨_, _, hm, hf, fun hok => ?_, rfl⟩
      rw [moveOk, ← hdm, ← hdr, Ea.eaIn_dalt, Bool.and_eq_true] at hok
      exact hok.1
    · cases h
  · cases h

theorem ext1_eq_some {k : Word → Word → Instr} (h : ext1 k w ext = some (i, rest)) : ∃ x : Word, i = k w x := by
  unfold ext1 at h
  split at h
  · cases h
    exact ⟨_, rfl⟩
  · cases h

theorem branch_eq_some {k : Word → BrDisp → Instr} (h : branch k w ext = some (i, rest)) :
    ∃ d : BrDisp, d.wf = true ∧ i = k w d := by
  unfold branch at h
  dsimp only at h
  split at h
  · split at h
    · cases h
      exact ⟨_, rfl, rfl⟩
    · cases h
  · next hd =>
    cases h
    exact ⟨.short (w.truncate 8), bne_iff_ne.mpr hd, rfl⟩

end Readers

/-! ### Rows -/

/-- What a row reads is a well-formed instruction of the 68000, where the row's constraints hold. -/
def OpRow.Sound (row : OpRow) : Prop :=
  ∀ (w : Word) (ext : List Word) (i : Instr) (rest : List Word), row.ok w = true → row.read w ext = some (i, rest) →
    i.wf = true ∧ i.cpu = .m68k

section Rows

variable {mask value : Nat} {ok : Word → Bool}

theorem sound_plain {k : Word → Instr} (h : ∀ w, ok w = true → (k w).wf = true ∧ (k w).cpu = .m68k) :
    OpRow.Sound ⟨mask, value, ok, plain k⟩ := by
  intro w ext i rest hok hread
  cases hread
  exact h w hok

theorem sound_ext1 {k : Word → Word → Instr} (h : ∀ w x, (k w x).wf = true ∧ (k w x).cpu = .m68k) :
    OpRow.Sound ⟨mask, value, ok, ext1 k⟩ := by
  intro w ext i rest _ hread
  obtain ⟨x, rfl⟩ := ext1_eq_some hread
  exact h w x

theorem sound_eaAt {cat : EaCat} {sz : Word → Size} {k : Word → Ea → Instr}
    (h : ∀ w e, e.inCat cat = true → e.fits (sz w) = true → (k w e).wf = true ∧ (k w e).cpu = .m68k) :
    OpRow.Sound ⟨mask, value, eaOk cat, eaAt sz k⟩ := by
  intro w ext i rest hok hread
  obtain ⟨e, -, hf, hcat, rfl⟩ := eaAt_eq_some hread
  exact h w e (hcat cat ▸ hok) hf

theorem sound_ea {cat : EaCat} {sz : Size} {k : Word → Ea → Instr}
    (h : ∀ w e, e.inCat cat = true → e.fits sz = true → (k w e).wf = true ∧ (k w e).cpu = .m68k) :
    OpRow.Sound ⟨mask, value, eaOk cat, ea sz k⟩ :=
  sound_eaAt h

theorem sound_szEa {cat : EaCat} {k : Size → Word → Ea → Instr}
    (h : ∀ sz w e, e.inCat cat = true → e.fits sz = true → (k sz w e).wf = true ∧ (k sz w e).cpu = .m68k) :
    OpRow.Sound ⟨mask, value, szEaOk cat, szEa k⟩ := by
  intro w ext i rest hok hread
  obtain ⟨-, hok⟩ := Bool.and_eq_true_iff.mp hok
  obtain ⟨e, -, hf, hcat, rfl⟩ := szEa_eq_some hread
  exact h _ w e (hcat cat ▸ hok) hf

theorem sizeOf_eq_b {n : Nat} (h : (sizeOf n == .b) = true) : n = 0 := by
  unfold sizeOf at h
  split at h
  · rfl
  · cases h
  · cases h

theorem sound_szEaNoBA {cat : EaCat} {k : Size → Word → Ea → Instr}
    (h : ∀ sz w e, e.inCat cat = true → e.fits sz = true → (!(sz == .b && e.isAreg)) = true →
      (k sz w e).wf = true ∧ (k sz w e).cpu = .m68k) :
    OpRow.Sound ⟨mask, value, szEaNoBA cat, szEa k⟩ := by
  intro w ext i rest hok hread
  obtain ⟨hok, hba⟩ := Bool.and_eq_true_iff.mp hok
  obtain ⟨-, hok⟩ := Bool.and_eq_true_iff.mp hok
  obtain ⟨e, hm, hf, hcat, rfl⟩ := szEa_eq_some hread
  refine h _ w e (hcat cat ▸ hok) hf ?_
  rw [Ea.isAreg_eq, hm, Bool.not_eq_true', Bool.and_eq_false_imp]
  intro hsz
  simpa [sizeOf_eq_b hsz] using hba

theorem sound_immEa {cat : EaCat} {k : Size → Long → Ea → Instr}
    (h : ∀ sz v e, fits sz v = true → e.inCat cat = true → (k sz v e).wf = true ∧ (k sz v e).cpu = .m68k) :
    OpRow.Sound ⟨mask, value, szEaOk cat, immEa k⟩ := by
  intro w ext i rest hok hread
  obtain ⟨-, hok⟩ := Bool.and_eq_true_iff.mp hok
  obtain ⟨sz, v, e, hv, hcat, rfl⟩ := immEa_eq_some hread
  exact h sz v e hv (hcat cat ▸ hok)

theorem sound_bitEa {cat : EaCat} {k : Byte → Ea → Instr}
    (h : ∀ b e, e.inCat cat = true → (k b e).wf = true ∧ (k b e).cpu = .m68k) :
    OpRow.Sound ⟨mask, value, eaOk cat, bitEa k⟩ := by
  intro w ext i rest hok hread
  obtain ⟨b, e, hcat, rfl⟩ := bitEa_eq_some hread
  exact h b e (hcat cat ▸ hok)

theorem sizeWL_ne_b (n : Nat) : (sizeWL n != .b) = true := by
  unfold sizeWL
  split <;> rfl

theorem sound_maskEa {cat : EaCat} {k : Size → Word → Ea → Instr}
    (h : ∀ sz m e, (sz != .b) = true → e.inCat cat = true → (k sz m e).wf = true ∧ (k sz m e).cpu = .m68k) :
    OpRow.Sound ⟨mask, value, eaOk cat, maskEa k⟩ := by
  intro w ext i rest hok hread
  obtain ⟨n, m, e, hcat, rfl⟩ := maskEa_eq_some hread
  exact h _ m e (sizeWL_ne_b n) (hcat cat ▸ hok)

theorem sound_moveEa {sz : Size} {k : Ea → Ea → Instr}
    (h : ∀ s d, s.fits sz = true → d.isDalt = true → (k s d).wf = true ∧ (k s d).cpu = .m68k) :
    OpRow.Sound ⟨mask, value, moveOk, moveEa sz k⟩ := by
  intro w ext i rest hok hread
  obtain ⟨s, d, -, hs, hd, rfl⟩ := moveEa_eq_some hread
  exact h s d hs (hd hok)

theorem sound_moveB : OpRow.Sound ⟨mask, value, fun w => moveOk w && fieldOf w 5 3 != 1, moveEa .b .moveB⟩ := by
  intro w ext i rest hok hread
  obtain ⟨hok, hne⟩ := Bool.and_eq_true_iff.mp hok
  obtain ⟨s, d, hm, hs, hd, rfl⟩ := moveEa_eq_some hread
  have ha : (!s.isAreg) = true := by rw [Ea.isAreg_eq, hm]; exact hne
  exact ⟨Bool.and_eq_true_iff.mpr ⟨Bool.and_eq_true_iff.mpr ⟨hs, ha⟩, hd hok⟩, rfl⟩

theorem sound_branch {k : BrDisp → Instr} (h : ∀ d, d.wf = true → (k d).wf = true ∧ (k d).cpu = .m68k) :
    OpRow.Sound ⟨mask, value, ok, branch fun _ d => k d⟩ := by
  intro w ext i rest _ hread
  obtain ⟨d, hd, rfl⟩ := branch_eq_some (k := fun _ d => k d) hread
  exact h d hd

/-- A condition code of 2 or more is not T or F (47 R1111). -/
theorem cond16Of_ne {n : Nat} (h : 2 ≤ n) : (cond16Of n != .t && cond16Of n != .f) = true := by
  unfold cond16Of
  split
  · omega
  · omega
  all_goals rfl

theorem sound_bcc : OpRow.Sound ⟨mask, value, fun w => fieldOf w 11 8 ≥ 2,
    branch fun w d => .bcc (cond16Of (fieldOf w 11 8)) d⟩ := by
  intro w ext i rest hok hread
  obtain ⟨d, hd, rfl⟩ := branch_eq_some (k := fun w d => .bcc (cond16Of (fieldOf w 11 8)) d) hread
  exact ⟨Bool.and_eq_true_iff.mpr ⟨cond16Of_ne (of_decide_eq_true hok), hd⟩, rfl⟩

end Rows

/-! ### The lines -/

theorem rows0_sound : ∀ row ∈ rows0, row.Sound := by
  simp only [rows0, List.forall_mem_cons, List.not_mem_nil, false_imp_iff, implies_true, and_true]
  exact ⟨sound_immEa fun _ _ _ hv hc => ⟨Bool.and_eq_true_iff.mpr ⟨hv, hc⟩, rfl⟩,
    sound_ext1 fun _ _ => ⟨rfl, rfl⟩,
    sound_ext1 fun _ _ => ⟨rfl, rfl⟩,
    sound_immEa fun _ _ _ hv hc => ⟨Bool.and_eq_true_iff.mpr ⟨hv, hc⟩, rfl⟩,
    sound_ext1 fun _ _ => ⟨rfl, rfl⟩,
    sound_ext1 fun _ _ => ⟨rfl, rfl⟩,
    sound_immEa fun _ _ _ hv hc => ⟨Bool.and_eq_true_iff.mpr ⟨hv, hc⟩, rfl⟩,
    sound_immEa fun _ _ _ hv hc => ⟨Bool.and_eq_true_iff.mpr ⟨hv, hc⟩, rfl⟩,
    sound_immEa fun _ _ _ hv hc => ⟨Bool.and_eq_true_iff.mpr ⟨hv, hc⟩, rfl⟩,
    sound_ext1 fun _ _ => ⟨rfl, rfl⟩,
    sound_ext1 fun _ _ => ⟨rfl, rfl⟩,
    sound_immEa fun _ _ _ hv hc => ⟨Bool.and_eq_true_iff.mpr ⟨hv, hc⟩, rfl⟩,
    sound_bitEa fun _ _ hc => ⟨hc, rfl⟩,
    sound_bitEa fun _ _ hc => ⟨hc, rfl⟩,
    sound_bitEa fun _ _ hc => ⟨hc, rfl⟩,
    sound_bitEa fun _ _ hc => ⟨hc, rfl⟩,
    sound_ea fun _ _ hc hf => ⟨Bool.and_eq_true_iff.mpr ⟨hc, hf⟩, rfl⟩,
    sound_ea fun _ _ hc _ => ⟨hc, rfl⟩,
    sound_ea fun _ _ hc _ => ⟨hc, rfl⟩,
    sound_ea fun _ _ hc _ => ⟨hc, rfl⟩,
    sound_ext1 fun _ _ => ⟨rfl, rfl⟩⟩

theorem rows1_sound : ∀ row ∈ rows1, row.Sound := by
  simp only [rows1, List.forall_mem_cons, List.not_mem_nil, false_imp_iff, implies_true, and_true]
  exact sound_moveB

theorem rows2_sound : ∀ row ∈ rows2, row.Sound := by
  simp only [rows2, List.forall_mem_cons, List.not_mem_nil, false_imp_iff, implies_true, and_true]
  exact ⟨sound_moveEa fun _ _ hs hd => ⟨Bool.and_eq_true_iff.mpr ⟨hs, hd⟩, rfl⟩,
    sound_ea fun _ _ _ hf => ⟨hf, rfl⟩⟩

theorem rows3_sound : ∀ row ∈ rows3, row.Sound := by
  simp only [rows3, List.forall_mem_cons, List.not_mem_nil, false_imp_iff, implies_true, and_true]
  exact ⟨sound_moveEa fun _ _ hs hd => ⟨Bool.and_eq_true_iff.mpr ⟨hs, hd⟩, rfl⟩,
    sound_ea fun _ _ _ hf => ⟨hf, rfl⟩⟩

theorem rows4_sound : ∀ row ∈ rows4, row.Sound := by
  simp only [rows4, List.forall_mem_cons, List.not_mem_nil, false_imp_iff, implies_true, and_true]
  exact ⟨sound_szEa fun _ _ _ hc _ => ⟨hc, rfl⟩,
    sound_ea fun _ _ hc _ => ⟨hc, rfl⟩,
    sound_szEa fun _ _ _ hc _ => ⟨hc, rfl⟩,
    sound_szEa fun _ _ _ hc _ => ⟨hc, rfl⟩,
    sound_ea fun _ _ hc hf => ⟨Bool.and_eq_true_iff.mpr ⟨hc, hf⟩, rfl⟩,
    sound_szEa fun _ _ _ hc _ => ⟨hc, rfl⟩,
    sound_ea fun _ _ hc hf => ⟨Bool.and_eq_true_iff.mpr ⟨hc, hf⟩, rfl⟩,
    sound_ea fun _ _ hc _ => ⟨hc, rfl⟩,
    sound_plain fun _ _ => ⟨rfl, rfl⟩,
    sound_ea fun _ _ hc _ => ⟨hc, rfl⟩,
    sound_plain fun _ _ => ⟨sizeWL_ne_b _, rfl⟩,
    sound_maskEa fun _ _ _ hs hc => ⟨Bool.and_eq_true_iff.mpr ⟨hs, hc⟩, rfl⟩,
    sound_szEa fun _ _ _ hc _ => ⟨hc, rfl⟩,
    sound_ea fun _ _ hc _ => ⟨hc, rfl⟩,
    sound_plain fun _ _ => ⟨rfl, rfl⟩,
    sound_maskEa fun _ _ _ hs hc => ⟨Bool.and_eq_true_iff.mpr ⟨hs, hc⟩, rfl⟩,
    sound_plain fun _ _ => ⟨rfl, rfl⟩,
    sound_ext1 fun _ _ => ⟨rfl, rfl⟩,
    sound_plain fun _ _ => ⟨rfl, rfl⟩,
    sound_plain fun _ _ => ⟨rfl, rfl⟩,
    sound_plain fun _ _ => ⟨rfl, rfl⟩,
    sound_plain fun _ _ => ⟨rfl, rfl⟩,
    sound_plain fun _ _ => ⟨rfl, rfl⟩,
    sound_ext1 fun _ _ => ⟨rfl, rfl⟩,
    sound_plain fun _ _ => ⟨rfl, rfl⟩,
    sound_plain fun _ _ => ⟨rfl, rfl⟩,
    sound_plain fun _ _ => ⟨rfl, rfl⟩,
    sound_plain fun _ _ => ⟨rfl, rfl⟩,
    sound_ea fun _ _ hc _ => ⟨hc, rfl⟩,
    sound_ea fun _ _ hc _ => ⟨hc, rfl⟩,
    sound_ea fun _ _ hc hf => ⟨Bool.and_eq_true_iff.mpr ⟨hc, hf⟩, rfl⟩,
    sound_ea fun _ _ hc _ => ⟨hc, rfl⟩⟩

theorem rows5_sound : ∀ row ∈ rows5, row.Sound := by
  simp only [rows5, List.forall_mem_cons, List.not_mem_nil, false_imp_iff, implies_true, and_true]
  exact ⟨sound_szEaNoBA fun _ _ _ hc _ ha => ⟨Bool.and_eq_true_iff.mpr ⟨hc, ha⟩, rfl⟩,
    sound_szEaNoBA fun _ _ _ hc _ ha => ⟨Bool.and_eq_true_iff.mpr ⟨hc, ha⟩, rfl⟩,
    sound_ea fun _ _ hc _ => ⟨hc, rfl⟩,
    sound_ext1 fun _ _ => ⟨rfl, rfl⟩⟩

theorem rows6_sound : ∀ row ∈ rows6, row.Sound := by
  simp only [rows6, List.forall_mem_cons, List.not_mem_nil, false_imp_iff, implies_true, and_true]
  exact ⟨sound_branch fun _ hd => ⟨hd, rfl⟩,
    sound_branch fun _ hd => ⟨hd, rfl⟩,
    sound_bcc⟩

theorem rows7_sound : ∀ row ∈ rows7, row.Sound := by
  simp only [rows7, List.forall_mem_cons, List.not_mem_nil, false_imp_iff, implies_true, and_true]
  exact sound_plain fun _ _ => ⟨rfl, rfl⟩

theorem rows8_sound : ∀ row ∈ rows8, row.Sound := by
  simp only [rows8, List.forall_mem_cons, List.not_mem_nil, false_imp_iff, implies_true, and_true]
  exact ⟨sound_szEa fun _ _ _ hc hf => ⟨Bool.and_eq_true_iff.mpr ⟨hc, hf⟩, rfl⟩,
    sound_szEa fun _ _ _ hc _ => ⟨hc, rfl⟩,
    sound_ea fun _ _ hc hf => ⟨Bool.and_eq_true_iff.mpr ⟨hc, hf⟩, rfl⟩,
    sound_ea fun _ _ hc hf => ⟨Bool.and_eq_true_iff.mpr ⟨hc, hf⟩, rfl⟩,
    sound_plain fun _ _ => ⟨rfl, rfl⟩⟩

theorem rows9_sound : ∀ row ∈ rows9, row.Sound := by
  simp only [rows9, List.forall_mem_cons, List.not_mem_nil, false_imp_iff, implies_true, and_true]
  exact ⟨sound_szEaNoBA fun _ _ _ _ hf ha => ⟨Bool.and_eq_true_iff.mpr ⟨hf, ha⟩, rfl⟩,
    sound_szEa fun _ _ _ hc _ => ⟨hc, rfl⟩,
    sound_eaAt fun _ _ _ hf => ⟨Bool.and_eq_true_iff.mpr ⟨sizeWL_ne_b _, hf⟩, rfl⟩,
    sound_plain fun _ _ => ⟨rfl, rfl⟩⟩

theorem rowsA_sound : ∀ row ∈ rowsA, row.Sound := by
  simp only [rowsA, List.forall_mem_cons, List.not_mem_nil, false_imp_iff, implies_true, and_true]
  exact sound_plain fun _ _ => ⟨rfl, rfl⟩

theorem rowsB_sound : ∀ row ∈ rowsB, row.Sound := by
  simp only [rowsB, List.forall_mem_cons, List.not_mem_nil, false_imp_iff, implies_true, and_true]
  exact ⟨sound_szEaNoBA fun _ _ _ _ hf ha => ⟨Bool.and_eq_true_iff.mpr ⟨hf, ha⟩, rfl⟩,
    sound_eaAt fun _ _ _ hf => ⟨Bool.and_eq_true_iff.mpr ⟨sizeWL_ne_b _, hf⟩, rfl⟩,
    sound_szEa fun _ _ _ hc _ => ⟨hc, rfl⟩,
    sound_plain fun _ _ => ⟨rfl, rfl⟩⟩

theorem rowsC_sound : ∀ row ∈ rowsC, row.Sound := by
  simp only [rowsC, List.forall_mem_cons, List.not_mem_nil, false_imp_iff, implies_true, and_true]
  exact ⟨sound_szEa fun _ _ _ hc hf => ⟨Bool.and_eq_true_iff.mpr ⟨hc, hf⟩, rfl⟩,
    sound_szEa fun _ _ _ hc _ => ⟨hc, rfl⟩,
    sound_ea fun _ _ hc hf => ⟨Bool.and_eq_true_iff.mpr ⟨hc, hf⟩, rfl⟩,
    sound_ea fun _ _ hc hf => ⟨Bool.and_eq_true_iff.mpr ⟨hc, hf⟩, rfl⟩,
    sound_plain fun _ _ => ⟨rfl, rfl⟩,
    sound_plain fun _ _ => ⟨rfl, rfl⟩,
    sound_plain fun _ _ => ⟨rfl, rfl⟩,
    sound_plain fun _ _ => ⟨rfl, rfl⟩⟩

theorem rowsD_sound : ∀ row ∈ rowsD, row.Sound := by
  simp only [rowsD, List.forall_mem_cons, List.not_mem_nil, false_imp_iff, implies_true, and_true]
  exact ⟨sound_szEaNoBA fun _ _ _ _ hf ha => ⟨Bool.and_eq_true_iff.mpr ⟨hf, ha⟩, rfl⟩,
    sound_szEa fun _ _ _ hc _ => ⟨hc, rfl⟩,
    sound_eaAt fun _ _ _ hf => ⟨Bool.and_eq_true_iff.mpr ⟨sizeWL_ne_b _, hf⟩, rfl⟩,
    sound_plain fun _ _ => ⟨rfl, rfl⟩⟩

theorem rowsE_sound : ∀ row ∈ rowsE, row.Sound := by
  simp only [rowsE, List.forall_mem_cons, List.not_mem_nil, false_imp_iff, implies_true, and_true]
  exact ⟨sound_plain fun _ _ => ⟨rfl, rfl⟩,
    sound_plain fun _ _ => ⟨rfl, rfl⟩,
    sound_plain fun _ _ => ⟨rfl, rfl⟩,
    sound_plain fun _ _ => ⟨rfl, rfl⟩,
    sound_plain fun _ _ => ⟨rfl, rfl⟩,
    sound_plain fun _ _ => ⟨rfl, rfl⟩,
    sound_plain fun _ _ => ⟨rfl, rfl⟩,
    sound_plain fun _ _ => ⟨rfl, rfl⟩,
    sound_ea fun _ _ hc _ => ⟨hc, rfl⟩,
    sound_ea fun _ _ hc _ => ⟨hc, rfl⟩,
    sound_ea fun _ _ hc _ => ⟨hc, rfl⟩,
    sound_ea fun _ _ hc _ => ⟨hc, rfl⟩,
    sound_ea fun _ _ hc _ => ⟨hc, rfl⟩,
    sound_ea fun _ _ hc _ => ⟨hc, rfl⟩,
    sound_ea fun _ _ hc _ => ⟨hc, rfl⟩,
    sound_ea fun _ _ hc _ => ⟨hc, rfl⟩⟩

theorem rowsF_sound : ∀ row ∈ rowsF, row.Sound := by
  simp only [rowsF, List.forall_mem_cons, List.not_mem_nil, false_imp_iff, implies_true, and_true]
  exact sound_plain fun _ _ => ⟨rfl, rfl⟩

theorem lineRows_sound (n : Nat) : ∀ row ∈ lineRows n, row.Sound := by
  unfold lineRows
  split
  · exact rows0_sound
  · exact rows1_sound
  · exact rows2_sound
  · exact rows3_sound
  · exact rows4_sound
  · exact rows5_sound
  · exact rows6_sound
  · exact rows7_sound
  · exact rows8_sound
  · exact rows9_sound
  · exact rowsA_sound
  · exact rowsB_sound
  · exact rowsC_sound
  · exact rowsD_sound
  · exact rowsE_sound
  · exact rowsF_sound

/-- Settles O47: the Z80 maps by their cases, a 68000 word by the row that installs its slot. -/
theorem decodedIsWellFormed : Obligations.DecodedIsWellFormed := by
  intro cpu bytes i n h
  cases cpu with
  | z80 =>
    have hg := decodeZ80_good bytes
    rw [show decodeZ80 bytes = .ok i n from h] at hg
    obtain ⟨hwf, hcpu⟩ := Bool.and_eq_true_iff.mp hg
    exact ⟨hwf, of_decide_eq_true hcpu⟩
  | m68k =>
    change decodeWords (wordsOf bytes) = .ok i n at h
    unfold decodeWords at h
    split at h
    · cases h
    · split at h
      · cases h
      · next row hrow =>
        split at h
        · next hread =>
          cases h
          have hinst := List.find?_some hrow
          exact lineRows_sound _ row (List.mem_of_find?_eq_some hrow) _ _ _ _ (Bool.and_eq_true_iff.mp hinst).2 hread
        · cases h

end Sys2Proof
end

section
/-! PROOFS. What no Z80 instruction can change: the 68000, its RAM, the image, the port list, the host's side
(20_memory.md R157, R158; 60 R1273, R1283). -/

namespace Sys2Proof.Machine

/-! ### The states a Z80 instruction can lead to -/

/-- `t` is `s` with at most the Z80, its RAM and what was output changed, the RAM staying in form. -/
structure ZKeeps (s t : State) : Prop where
  m : t.m = s.m
  wram : t.bus.wram = s.bus.wram
  rom : t.bus.rom = s.bus.rom
  pads : t.bus.pads = s.bus.pads
  host : t.host = s.host
  form : Bus.wf s.bus → Bus.wf t.bus

namespace ZKeeps

variable {s t u : State}

protected theorem refl (s : State) : ZKeeps s s := ⟨rfl, rfl, rfl, rfl, rfl, id⟩

protected theorem trans (h : ZKeeps s t) (k : ZKeeps t u) : ZKeeps s u :=
  ⟨k.m.trans h.m, k.wram.trans h.wram, k.rom.trans h.rom, k.pads.trans h.pads, k.host.trans h.host, k.form ∘ h.form⟩

theorem setZ (h : ZKeeps s t) (z : Z80) : ZKeeps s (t.setZ z) := ⟨h.m, h.wram, h.rom, h.pads, h.host, h.form⟩

theorem took (h : ZKeeps s t) (n : Nat) : ZKeeps s (t.took n) := ⟨h.m, h.wram, h.rom, h.pads, h.host, h.form⟩

theorem emit (h : ZKeeps s t) (e : Event) : ZKeeps s (t.emit e) := ⟨h.m, h.wram, h.rom, h.pads, h.host, h.form⟩

theorem drawn (h : ZKeeps s t) : ZKeeps s t.drawn := ⟨h.m, h.wram, h.rom, h.pads, h.host, h.form⟩

theorem writeZ8 (h : ZKeeps s t) (a : Word) (v : Byte) : ZKeeps s (writeZ8 t a v) :=
  ⟨h.m, (Bus.writeZ_wram ..).trans h.wram, (Bus.writeZ_rom ..).trans h.rom, (Bus.writeZ_pads ..).trans h.pads, h.host,
    fun w => Bus.wf_writeZ _ _ _ (h.form w)⟩

/-! ### The shared operations of the meanings -/

theorem writeZ16 (h : ZKeeps s t) (a v : Word) : ZKeeps s (writeZ16 t a v) := (h.writeZ8 _ _).writeZ8 _ _

theorem push16 (h : ZKeeps s t) (v : Word) : ZKeeps s (push16 t v) := (((h.setZ _).writeZ8 _ _).setZ _).writeZ8 _ _

theorem ioRead (h : ZKeeps s t) (port : Word) : ZKeeps s (ioRead t port).2 := by
  unfold Machine.ioRead
  split
  · exact h
  · exact h.drawn

theorem setLoc8 (h : ZKeeps s t) (l : Loc8) (v : Byte) : ZKeeps s (setLoc8 t l v) := by
  cases l with
  | reg r => exact h.setZ _
  | hlInd => exact h.writeZ8 _ _

theorem atIndex (h : ZKeeps s t) (ii : IndexReg) (d : Byte) : ZKeeps s (atIndex t ii d) := h.setZ _

theorem modifyAt (h : ZKeeps s t) (a : Word) (op : Byte → Byte → Byte × Byte) : ZKeeps s (modifyAt a op t) :=
  (h.writeZ8 _ _).setZ _

theorem storeA (h : ZKeeps s t) (a : Word) : ZKeeps s (storeA t a) := (h.writeZ8 _ _).setZ _

theorem storeNn (h : ZKeeps s t) (nn v : Word) : ZKeeps s (storeNn t nn v) := (h.writeZ16 _ _).setZ _

theorem exchangeSp (h : ZKeeps s t) (v : Word) : ZKeeps s (exchangeSp t v).2 := (h.writeZ16 _ _).setZ _

theorem rotateLoc (h : ZKeeps s t) (k : Shift8) (l : Loc8) : ZKeeps s (rotateLoc k l t) := (h.setLoc8 _ _).setZ _

theorem rotateIdx (h : ZKeeps s t) (k : Shift8) (ii : IndexReg) (d : Byte) : ZKeeps s (rotateIdx k ii d t) :=
  ((h.atIndex _ _).writeZ8 _ _).setZ _

theorem digitRotate (h : ZKeeps s t) (m a : Byte) : ZKeeps s (digitRotate t m a) := (h.writeZ8 _ _).setZ _

theorem ldStep (h : ZKeeps s t) (k : BlockDir) : ZKeeps s (ldStep k t) := (h.writeZ8 _ _).setZ _

theorem cpStep (h : ZKeeps s t) (k : BlockDir) : ZKeeps s (cpStep k t) := h.setZ _

theorem inStep (h : ZKeeps s t) (k : BlockDir) : ZKeeps s (inStep k t) := ((h.ioRead _).writeZ8 _ _).setZ _

theorem outStep (h : ZKeeps s t) (k : BlockDir) : ZKeeps s (outStep k t) := (h.emit _).setZ _

theorem callTo (h : ZKeeps s t) (target : Word) : ZKeeps s (callTo target t) := (h.push16 _).setZ _

theorem returnZ (h : ZKeeps s t) : ZKeeps s (returnZ t) := (h.setZ _).setZ _

end ZKeeps

/-! ### Every Z80 instruction -/

/-- The outcome is a next state that keeps what the Z80 cannot change. -/
def ZRuns (s : State) (o : Host.Outcome State Fault Refusal) : Prop := ∃ t, o = .next t ∧ ZKeeps s t

theorem ZRuns.done {s t : State} {n : Nat} (h : ZKeeps s t) : ZRuns s (zDone n t) := ⟨_, rfl, h.took n⟩

theorem ZRuns.ite {s : State} {c : Prop} [Decidable c] {o o' : Host.Outcome State Fault Refusal} (h : ZRuns s o)
    (h' : ZRuns s o') : ZRuns s (if c then o else o') := by
  split
  · exact h
  · exact h'

theorem ZRuns.repeatWhile {s t : State} {more : Bool} (h : ZKeeps s t) : ZRuns s (repeatWhile more t) :=
  .ite (.done (h.setZ _)) (.done h)

/-- No Z80 instruction can fail, and each keeps what the Z80 cannot change; grouped by the operation an arm calls. -/
theorem exec_z80_runs (i : Instr) (s : State) (hi : i.cpu = .z80) : ZRuns s (exec i s) := by
  have h := ZKeeps.refl s
  cases i with
  | nopZ => exact .done h
  | addAR | addAN | addAHlInd | adcAR | adcAN | adcAHlInd | subR | subN | subHlInd | sbcAR | sbcAN | sbcAHlInd
  | andR | andN | andHlInd | xorR | xorN | xorHlInd | orR | orN | orHlInd | cpR | cpN | cpHlInd
  | incR | decR | daa | cpl | neg | scf | ccf | rlca | rrca | rla | rra
  | addHlRp | adcHlRp | sbcHlRp | addIxPp | addIyPp | incRp | decRp | incIx | decIx | incIy | decIy
  | ldRR | ldRN | ldRHlInd | ldRpNn | ldIxNn | ldIyNn | ldSpHl | ldSpIx | ldSpIy
  | ldHlMem | ldRpMem | ldIxMem | ldIyMem | popRp2 | exDeHl | exAfAf | exx | ldIA | ldRA | ldAI | ldAR
  | halt | di | ei | im0 | im1 | im2 | jpNn | jpCcNn | jr | jrCc | jpHl | jpIx | jpIy => exact .done (h.setZ _)
  | addAIxd | addAIyd | adcAIxd | adcAIyd | subIxd | subIyd | sbcAIxd | sbcAIyd | andIxd | andIyd | xorIxd | xorIyd
  | orIxd | orIyd | cpIxd | cpIyd | ldRIxd | ldRIyd | bitIxd | bitIyd => exact .done ((h.atIndex _ _).setZ _)
  | bitM _ l => exact .done (h.setZ _)
  | popIx | popIy | ldAInd | ldAMem | djnz => exact .done ((h.setZ _).setZ _)
  | ldHlIndR | ldHlIndN => exact .done (h.writeZ8 _ _)
  | incHlInd | decHlInd => exact .done (h.modifyAt _ _)
  | incIxd | incIyd | decIxd | decIyd => exact .done ((h.atIndex _ _).modifyAt _ _)
  | ldIxdR | ldIydR | ldIxdN | ldIydN | setIxd | setIyd | resIxd | resIyd => exact .done ((h.atIndex _ _).writeZ8 _ _)
  | ldIndA | ldMemA => exact .done (h.storeA _)
  | ldMemHl | ldMemRp | ldMemIx | ldMemIy => exact .done (h.storeNn _ _)
  | pushRp2 | pushIx | pushIy => exact .done (h.push16 _)
  | exSpHl | exSpIx | exSpIy => exact .done ((h.exchangeSp _).setZ _)
  | rlcM | rrcM | rlM | rrM | slaM | sraM | sllM | srlM => exact .done (h.rotateLoc _ _)
  | rlcIxd | rlcIyd | rrcIxd | rrcIyd | rlIxd | rlIyd | rrIxd | rrIyd | slaIxd | slaIyd | sraIxd | sraIyd
  | sllIxd | sllIyd | srlIxd | srlIyd => exact .done (h.rotateIdx _ _ _)
  | setM | resM => exact .done (h.setLoc8 _ _)
  | rld | rrd => exact .done (h.digitRotate _ _)
  | ldi | ldd => exact .done (h.ldStep _)
  | ldir | lddr => exact .repeatWhile (h.ldStep _)
  | cpi | cpd => exact .done (h.cpStep _)
  | cpir | cpdr => exact .repeatWhile (h.cpStep _)
  | ini | ind => exact .done (h.inStep _)
  | inir | indr => exact .repeatWhile (h.inStep _)
  | outi | outd => exact .done (h.outStep _)
  | otir | otdr => exact .repeatWhile (h.outStep _)
  | inAN | inRC => exact .done ((h.ioRead _).setZ _)
  | outNA | outCR => exact .done ((h.emit _).setZ _)
  | callNn | rst => exact .done (h.callTo _)
  | callCcNn => exact .ite (.done (h.callTo _)) (.done (h.setZ _))
  | ret => exact .done h.returnZ
  | retCc => exact .ite (.done h.returnZ) (.done (h.setZ _))
  | reti | retn => exact .done (h.returnZ.setZ _)
  | _ => cases hi

end Sys2Proof.Machine
end

section
/-! PROOFS. What no 68000 instruction can change (60 R1280, R1283; 20_memory.md R168): the Z80, the image, the port list, the
host's side, the bytes outside its stores and its exception frame, and in user mode the system state. -/

namespace Sys2Proof.Machine

/-! ### Words that agree above the condition codes -/

theorem getLsbD_of_ushiftRight_eq {a b : Word} {n k : Nat} (h : a >>> n = b >>> n) (hk : n ≤ k) :
    a.getLsbD k = b.getLsbD k := by
  have := congrArg (fun w : Word => w.getLsbD (k - n)) h
  simpa [BitVec.getLsbD_ushiftRight, Nat.add_sub_cancel' hk] using this

theorem ushiftRight_eq_of_getLsbD {a b : Word} {n : Nat} (h : ∀ k, n ≤ k → a.getLsbD k = b.getLsbD k) :
    a >>> n = b >>> n := by
  apply BitVec.eq_of_getLsbD_eq
  intro i _
  simp only [BitVec.getLsbD_ushiftRight]
  exact h _ (by omega)

/-- The reserved bits of SR are above the condition codes (10_state.md R72). -/
theorem srLegal_of_ushiftRight_eq {a b : Word} (h : a >>> 5 = b >>> 5) : srLegal a = srLegal b := by
  have : a &&& ~~~ srMask = b &&& ~~~ srMask := by
    apply BitVec.eq_of_getLsbD_eq
    intro i hi
    rw [BitVec.getLsbD_and, BitVec.getLsbD_and]
    by_cases hk : 5 ≤ i
    · rw [getLsbD_of_ushiftRight_eq h hk]
    · have : (~~~ srMask).getLsbD i = false := by
        revert i; decide
      rw [this, Bool.and_false, Bool.and_false]
  rw [srLegal, srLegal, this]

theorem withNzvc_ushiftRight (sr : Word) (n z v c : Bool) : withNzvc sr n z v c >>> 5 = sr >>> 5 :=
  ushiftRight_eq_of_getLsbD fun k hk => by rw [withNzvc_getLsbD]; grind

theorem withXnzvc_ushiftRight (sr : Word) (x n z v c : Bool) : withXnzvc sr x n z v c >>> 5 = sr >>> 5 :=
  ushiftRight_eq_of_getLsbD fun k hk => by rw [withXnzvc_getLsbD]; grind

theorem withZ_ushiftRight (sr : Word) (z : Bool) : withZ sr z >>> 5 = sr >>> 5 :=
  ushiftRight_eq_of_getLsbD fun k hk => by rw [withZ, withBit16_getLsbD _ _ _ _ (by decide)]; grind

theorem writeCCR_sr_ushiftRight (s : State) (v : Byte) : (writeCCR s v).m.sr >>> 5 = s.m.sr >>> 5 := by
  apply ushiftRight_eq_of_getLsbD
  intro k hk
  rw [writeCCR_m_sr, BitVec.getLsbD_or, mask_high 5 _ _ k (ffe0_bit k)]
  have hm : (0x1F : Byte).getLsbD k = false := by
    by_cases h8 : k < 8
    · revert hk; revert h8; revert k; decide
    · exact BitVec.getLsbD_of_ge _ _ (by omega)
  have hv : ((v &&& 0x1F).zeroExtend 16).getLsbD k = false := by
    rw [BitVec.getLsbD_setWidth, BitVec.getLsbD_and, hm, Bool.and_false, Bool.and_false]
  rw [hv, Bool.or_false, decide_eq_true hk, Bool.and_true]

/-! ### Runs of bytes -/

theorem busAddr_add (a : Long) (k : Nat) : busAddr (a + BitVec.ofNat 32 k) = busAddr a + BitVec.ofNat 24 k := by
  apply BitVec.eq_of_toNat_eq
  rw [busAddr_toNat, BitVec.toNat_add, BitVec.toNat_add, busAddr_toNat, BitVec.toNat_ofNat, BitVec.toNat_ofNat]
  omega

theorem mem_byteRun {a : Long} {n : Nat} {k : BitVec 24} :
    k ∈ byteRun a n ↔ ∃ j < n, busAddr a + BitVec.ofNat 24 j = k := by
  simp [byteRun]

theorem byteRun_subset (a : Long) {i m n : Nat} (h : i + m ≤ n) : byteRun (a + BitVec.ofNat 32 i) m ⊆ byteRun a n := by
  intro k hk
  obtain ⟨j, hj, rfl⟩ := mem_byteRun.1 hk
  refine mem_byteRun.2 ⟨i + j, by omega, ?_⟩
  rw [busAddr_add, BitVec.add_assoc, BitVec.ofNat_add]

theorem readM_writeM16_ne (b : Bus) {a k : BitVec 24} (v : Word) (h0 : k ≠ a) (h1 : k ≠ a + 1) :
    Bus.readM (writeM16 b a v) k = Bus.readM b k := by
  rw [writeM16, Bus.readM_writeM_ne _ _ h1, Bus.readM_writeM_ne _ _ h0]

/-- A store leaves every byte outside its bytes as it was. -/
theorem readM_writeMem_of_notMem (b : Bus) {a : Long} {sz : Size} (v : Long) {k : BitVec 24} (h : k ∉ byteRun a sz.bytes) :
    Bus.readM (writeMem b a sz v) k = Bus.readM b k := by
  have hne : ∀ j < sz.bytes, k ≠ busAddr a + BitVec.ofNat 24 j := fun j hj e => h (mem_byteRun.2 ⟨j, hj, e.symm⟩)
  have h0 : k ≠ busAddr a := by simpa using hne 0 (by cases sz <;> decide)
  cases sz with
  | b => exact Bus.readM_writeM_ne _ _ h0
  | w => exact readM_writeM16_ne _ _ h0 (hne 1 (by decide))
  | l =>
    have h3 : k ≠ busAddr a + 2 + 1 := by rw [BitVec.add_assoc]; exact hne 3 (by decide)
    have h2 : k ≠ busAddr a + 2 := hne 2 (by decide)
    rw [writeMem, writeM32, readM_writeM16_ne _ _ h2 h3, readM_writeM16_ne _ _ h0 (hne 1 (by decide))]

@[simp] theorem writeMem_rom (b : Bus) (a : Long) (sz : Size) (v : Long) : (writeMem b a sz v).rom = b.rom := by
  cases sz <;> simp [writeMem, writeM16, writeM32]

@[simp] theorem writeMem_pads (b : Bus) (a : Long) (sz : Size) (v : Long) : (writeMem b a sz v).pads = b.pads := by
  cases sz <;> simp [writeMem, writeM16, writeM32]

/-! ### What is kept -/

/-- `t` is `s` with the Z80, the image, the port list, the host's side and every byte outside `addrs` kept. -/
structure BusKeeps (addrs : List (BitVec 24)) (s t : State) : Prop where
  z : t.z = s.z
  rom : t.bus.rom = s.bus.rom
  pads : t.bus.pads = s.bus.pads
  host : t.host = s.host
  form : Bus.wf s.bus → Bus.wf t.bus
  reads : ∀ a, a ∉ addrs → Bus.readM t.bus a = Bus.readM s.bus a

/-- T, S, the mask, the stored stack pointer and the stopped state are kept. -/
structure SystemKept (s t : State) : Prop where
  sr : t.m.sr >>> 5 = s.m.sr >>> 5
  otherSP : t.m.otherSP = s.m.otherSP
  stopped : t.m.stopped = s.m.stopped

/-- A change of data alone. -/
structure Plain (addrs : List (BitVec 24)) (s t : State) : Prop where
  bus : BusKeeps addrs s t
  system : SystemKept s t

/-- What every instruction keeps: SR stays legal, and user mode keeps the system state or is left. -/
structure Keeps (addrs : List (BitVec 24)) (s t : State) : Prop where
  bus : BusKeeps addrs s t
  legal : srLegal s.m.sr → srLegal t.m.sr
  contained : s.m.sr.getLsbD 13 = false → t.m.sr.getLsbD 13 = true ∨ SystemKept s t

variable {s t u : State} {addrs : List (BitVec 24)}

protected theorem BusKeeps.refl (addrs : List (BitVec 24)) (s : State) : BusKeeps addrs s s :=
  ⟨rfl, rfl, rfl, rfl, id, fun _ _ => rfl⟩

theorem BusKeeps.of_bus (hz : t.z = s.z) (hb : t.bus = s.bus) (hh : t.host = s.host) : BusKeeps addrs s t :=
  ⟨hz, by rw [hb], by rw [hb], hh, fun w => hb ▸ w, fun _ _ => by rw [hb]⟩

protected theorem BusKeeps.trans (h : BusKeeps addrs s t) (k : BusKeeps addrs t u) : BusKeeps addrs s u :=
  ⟨k.z.trans h.z, k.rom.trans h.rom, k.pads.trans h.pads, k.host.trans h.host, k.form ∘ h.form,
    fun a ha => (k.reads a ha).trans (h.reads a ha)⟩

theorem BusKeeps.mono {addrs' : List (BitVec 24)} (h : BusKeeps addrs s t) (hs : addrs ⊆ addrs') : BusKeeps addrs' s t :=
  { h with reads := fun a ha => h.reads a fun m => ha (hs m) }

protected theorem SystemKept.trans (h : SystemKept s t) (k : SystemKept t u) : SystemKept s u :=
  ⟨k.sr.trans h.sr, k.otherSP.trans h.otherSP, k.stopped.trans h.stopped⟩

namespace Plain

protected theorem refl (addrs : List (BitVec 24)) (s : State) : Plain addrs s s := ⟨.refl _ _, rfl, rfl, rfl⟩

protected theorem trans (h : Plain addrs s t) (k : Plain addrs t u) : Plain addrs s u :=
  ⟨h.bus.trans k.bus, h.system.trans k.system⟩

theorem mono {addrs' : List (BitVec 24)} (h : Plain addrs s t) (hs : addrs ⊆ addrs') : Plain addrs' s t :=
  ⟨h.bus.mono hs, h.system⟩

theorem keeps (h : Plain addrs s t) : Keeps addrs s t :=
  ⟨h.bus, fun w => (srLegal_of_ushiftRight_eq h.system.sr).trans w, fun _ => .inr h.system⟩

/-- Data alone changed, and then anything an instruction may do. -/
theorem keeps_trans (h : Plain addrs s t) (k : Keeps addrs t u) : Keeps addrs s u := by
  refine ⟨h.bus.trans k.bus, fun w => k.legal ((srLegal_of_ushiftRight_eq h.system.sr).trans w), fun hs => ?_⟩
  have ht : t.m.sr.getLsbD 13 = false := (getLsbD_of_ushiftRight_eq h.system.sr (by decide)).trans hs
  exact (k.contained ht).imp_right h.system.trans

theorem setD (h : Plain addrs s t) (n : Fin 8) (v : Long) : Plain addrs s (setD t n v) := h.trans ⟨.of_bus rfl rfl rfl, rfl, rfl, rfl⟩

theorem setAn (h : Plain addrs s t) (n : Fin 8) (v : Long) : Plain addrs s (setAn t n v) :=
  h.trans ⟨.of_bus rfl rfl rfl, rfl, rfl, rfl⟩

theorem setPc (h : Plain addrs s t) (v : Long) : Plain addrs s (setPc t v) := h.trans ⟨.of_bus rfl rfl rfl, rfl, rfl, rfl⟩

theorem setDsz (h : Plain addrs s t) (n : Fin 8) (sz : Size) (v : Long) : Plain addrs s (setDsz t n sz v) := h.setD _ _

theorem drawn (h : Plain addrs s t) : Plain addrs s t.drawn := h.trans ⟨.of_bus rfl rfl rfl, rfl, rfl, rfl⟩

/-- SR written in its condition codes alone. -/
theorem setSr (h : Plain addrs s t) {sr : Word} (hsr : sr >>> 5 = t.m.sr >>> 5) : Plain addrs s (setSr t sr) :=
  h.trans ⟨.of_bus rfl rfl rfl, hsr, rfl, rfl⟩

theorem nzvc (h : Plain addrs s t) (n z v c : Bool) : Plain addrs s (Machine.setSr t (withNzvc t.m.sr n z v c)) :=
  h.setSr (withNzvc_ushiftRight ..)

theorem xnzvc (h : Plain addrs s t) (x n z v c : Bool) : Plain addrs s (Machine.setSr t (withXnzvc t.m.sr x n z v c)) :=
  h.setSr (withXnzvc_ushiftRight ..)

theorem writeCCR (h : Plain addrs s t) (v : Byte) : Plain addrs s (writeCCR t v) := h.setSr (writeCCR_sr_ushiftRight t v)

theorem resolve (h : Plain addrs s t) (sz : Size) (pw : Long) (e : Ea) : Plain addrs s (resolve t sz pw e).2 := by
  cases e with
  | postInc n => exact h.setAn _ _
  | preDec n => exact h.setAn _ _
  | _ => exact h

/-- A store of a size inside `addrs`. -/
theorem store (h : Plain addrs s t) (a : Long) (sz : Size) (v : Long) (ha : byteRun a sz.bytes ⊆ addrs) :
    Plain addrs s (t.setBus (writeMem t.bus a sz v)) :=
  h.trans ⟨⟨rfl, writeMem_rom .., writeMem_pads .., rfl, Bus.wf_writeMem _ _ _ _,
    fun _ hk => readM_writeMem_of_notMem _ _ fun m => hk (ha m)⟩, rfl, rfl, rfl⟩

end Plain

/-! ### Operations that may raise -/

/-- Whatever the operation answers has the property. -/
structure Gives {α : Type} (P : α → Prop) (x : Except Fault α) : Prop where
  of_ok : ∀ a, x = .ok a → P a

namespace Gives

variable {α β : Type} {P Q : α → Prop} {R : β → Prop}

theorem ok {a : α} (h : P a) : Gives P (.ok a) := ⟨fun _ e => by cases e; exact h⟩

/-- A value of which nothing is needed. -/
theorem any (x : Except Fault α) : Gives (fun _ => True) x := ⟨fun _ _ => trivial⟩

theorem bind {x : Except Fault α} {f : α → Except Fault β} (hx : Gives P x) (hf : ∀ a, P a → Gives R (f a)) :
    Gives R (x >>= f) := by
  cases x with
  | error e => exact ⟨fun _ h => nomatch h⟩
  | ok a => exact hf a (hx.of_ok a rfl)

theorem imp {x : Except Fault α} (h : Gives P x) (hi : ∀ a, P a → Q a) : Gives Q x := ⟨fun a e => hi a (h.of_ok a e)⟩

theorem ite {c : Prop} [Decidable c] {x y : Except Fault α} (hx : c → Gives P x) (hy : ¬ c → Gives P y) :
    Gives P (if c then x else y) := by
  split
  · next h => exact hx h
  · next h => exact hy h

end Gives

/-- The bytes of a location at a size, none where it is no memory. -/
def Loc.bytes (sz : Size) : Loc → List (BitVec 24)
  | .mem a => byteRun a sz.bytes
  | _ => []

theorem eaBytes_eq (s : State) (sz : Size) (pw : Long) (e : Ea) : eaBytes s sz pw e = (resolve s sz pw e).1.bytes sz := by
  rw [eaBytes, destAddr]
  cases (resolve s sz pw e).1 <;> rfl

theorem bytes_resolve_subset (s : State) (sz : Size) (pw : Long) (e : Ea) :
    (resolve s sz pw e).1.bytes sz ⊆ eaBytes s sz pw e := by
  rw [eaBytes_eq]
  exact List.Subset.refl _

theorem gives_memWrite (h : Plain addrs s t) {a : Long} {sz : Size} {v : Long} (ha : byteRun a sz.bytes ⊆ addrs) :
    Gives (Plain addrs s) (memWrite t a sz v) := by
  refine ⟨fun u e => ?_⟩
  obtain ⟨-, rfl⟩ := memWrite_eq_ok e
  exact h.store a sz v ha

theorem gives_writeLoc (h : Plain addrs s t) {l : Loc} {sz : Size} {v : Long} (hl : l.bytes sz ⊆ addrs) :
    Gives (Plain addrs s) (writeLoc t sz l v) := by
  cases l with
  | dreg n => exact .ok (h.setDsz _ _ _)
  | areg n => exact .ok (h.setAn _ _)
  | mem a => exact gives_memWrite h hl
  | imm w => exact .ok h

/-- A source operand: the state after its side effect. -/
theorem gives_loadEa (h : Plain addrs s t) (sz : Size) (pw : Long) (e : Ea) :
    Gives (fun p => Plain addrs s p.2 ∧ p.2 = (resolve t sz pw e).2) (loadEa t sz pw e) := by
  refine ⟨fun ⟨v, u⟩ e' => ?_⟩
  obtain ⟨-, -, rfl⟩ := loadEa_eq_ok e'
  exact ⟨h.resolve sz pw e, rfl⟩

theorem gives_storeEa (h : Plain addrs s t) {sz : Size} {pw : Long} {e : Ea} {v : Long} (ha : eaBytes t sz pw e ⊆ addrs) :
    Gives (Plain addrs s) (storeEa t sz pw e v) :=
  gives_writeLoc (h.resolve sz pw e) (eaBytes_eq t sz pw e ▸ ha)

/-- A read-modify-write operand whose new SR differs in its condition codes alone. -/
theorem gives_modifyEa (h : Plain addrs s t) {sz : Size} {pw : Long} {e : Ea} {f : Word → Long → Long × Word}
    (ha : eaBytes t sz pw e ⊆ addrs) (hf : ∀ sr v, (f sr v).2 >>> 5 = sr >>> 5) :
    Gives (Plain addrs s) (modifyEa t sz pw e f) := by
  refine ⟨fun w e' => ?_⟩
  have hr := modifyEa_eq_ok e'
  rw [modifyEa_ok _ _ _ _ _ hr] at e'
  cases e'
  refine Plain.setSr ((gives_writeLoc (h.resolve sz pw e) (eaBytes_eq t sz pw e ▸ ha)).of_ok _
    (writeLoc_ok _ _ _ _ hr)) ?_
  rw [Loc.put_sr, hf]

theorem gives_push (h : Plain addrs s t) {v : Long} (ha : pushBytes t ⊆ addrs) : Gives (Plain addrs s) (push t .l v) := by
  refine ⟨fun u e => ?_⟩
  obtain ⟨-, rfl⟩ := push_eq_ok e
  exact (h.setAn 7 _).store _ .l v ha

theorem gives_pop (h : Plain addrs s t) (sz : Size) : Gives (fun p => Plain addrs s p.2) (pop t sz) := by
  refine ⟨fun ⟨v, u⟩ e => ?_⟩
  obtain ⟨-, -, rfl⟩ := pop_eq_ok e
  exact h.setAn 7 _

/-! ### Exceptions and writes of SR -/

/-- Supervisor mode with T = 0 has the reserved bits it had. -/
theorem srLegal_exception (sr : Word) (h : srLegal sr) : srLegal ((sr ||| 0x2000) &&& 0x7FFF) := by
  have hm : sr &&& ~~~ srMask = 0#16 := by simpa [srLegal] using h
  have hs : (0x2000 : Word) &&& ~~~ srMask = 0#16 := by decide
  rw [srLegal, BitVec.and_assoc, BitVec.and_comm 0x7FFF, ← BitVec.and_assoc, BitVec.and_or_distrib_right, hm, hs]
  rfl

theorem exception_sr_bit13 (sr : Word) : ((sr ||| 0x2000) &&& 0x7FFF : Word).getLsbD 13 = true := by
  rw [BitVec.getLsbD_and, BitVec.getLsbD_or]
  simp

theorem keeps_afterException (s : State) (off : Nat) (pc : Long) : Keeps (frameBytes s) s (afterException s off pc) := by
  have h4 : byteRun (supervisorSp s - 4) 4 ⊆ frameBytes s := by
    have : supervisorSp s - 4 = supervisorSp s - 6 + BitVec.ofNat 32 2 := by
      rw [BitVec.sub_eq_add_neg, BitVec.sub_eq_add_neg, BitVec.add_assoc]; rfl
    rw [this]
    exact byteRun_subset _ (by decide)
  have h2 : byteRun (supervisorSp s - 6) 2 ⊆ frameBytes s := by
    have := byteRun_subset (supervisorSp s - 6) (i := 0) (m := 2) (n := 6) (by decide)
    rwa [BitVec.add_zero] at this
  have hb := ((Plain.refl (frameBytes s) s).store (supervisorSp s - 4) .l pc h4).store
    (supervisorSp s - 6) .w (s.m.sr.zeroExtend 32) h2
  exact ⟨⟨rfl, hb.bus.rom, hb.bus.pads, rfl, hb.bus.form, hb.bus.reads⟩, srLegal_exception _,
    fun _ => .inl (exception_sr_bit13 _)⟩

theorem gives_takeException (s : State) (off : Nat) (pc : Long) :
    Gives (Keeps (frameBytes s) s) (takeException s off pc) := by
  refine ⟨fun t e => ?_⟩
  obtain ⟨hs, ho⟩ := takeException_eq_ok e
  rw [takeException_ok s off pc hs ho] at e
  cases e
  exact keeps_afterException s off pc

/-- A frame is at the same place after a change that keeps A7 and the system state. -/
theorem frameBytes_congr {s t : State} (h : SystemKept s t) (ha : t.m.a = s.m.a) : frameBytes t = frameBytes s := by
  have h13 : t.m.sr.getLsbD 13 = s.m.sr.getLsbD 13 := getLsbD_of_ushiftRight_eq h.sr (by decide)
  simp only [frameBytes, supervisorSp, h13, ha, h.otherSP]

/-- An exception taken after a change of data that keeps the address registers. -/
theorem gives_exception_after (h : Plain (frameBytes u) s t) (hu : SystemKept u t) (ha : t.m.a = u.m.a) (off : Nat)
    (pc : Long) : Gives (Keeps (frameBytes u) s) (takeException t off pc) := by
  have := gives_takeException t off pc
  rw [frameBytes_congr hu ha] at this
  exact this.imp fun _ k => h.keeps_trans k

/-- The bus and the host's side are kept by a write of SR. -/
theorem busKeeps_writeSR (h : BusKeeps addrs s t) (v : Word) : BusKeeps addrs s (writeSR t v) := by
  refine h.trans ?_
  have hz : (writeSR t v).z = t.z ∧ (writeSR t v).host = t.host := by
    simp only [writeSR]
    split
    · simp [enterSupervisorMode_eq]
    · simp [enterUserMode_eq]
  exact .of_bus hz.1 (writeSR_bus t v) hz.2

/-- A privileged operation: SR may be anything legal, as it is not reached from user mode. -/
theorem keeps_of_supervisor (hs : supervisor s = true) (h : BusKeeps addrs s t) (hl : srLegal s.m.sr → srLegal t.m.sr) :
    Keeps addrs s t := by
  refine ⟨h, hl, fun hu => ?_⟩
  rw [supervisor, hu] at hs
  cases hs

theorem keeps_writeSR (hs : supervisor s = true) (h : BusKeeps addrs s t) (v : Word) : Keeps addrs s (writeSR t v) :=
  keeps_of_supervisor hs (busKeeps_writeSR h v) fun _ => by rw [writeSR_sr]; exact srLegal_masked v

end Sys2Proof.Machine
end

section
/-! PROOFS. Every 68000 instruction ends, and keeps what `Keeps` says with the bytes of `storesOf` (60 R1280, R1283;
20_memory.md R168). -/

namespace Sys2Proof.Machine

variable {s t u : State} {addrs : List (BitVec 24)}

/-! ### The shared operations of the meanings -/

/-- A read of an operand, and then a change of data. -/
theorem gives_load_then (s : State) (sz : Size) (pw : Long) (e : Ea) {f : Long × State → Except Fault State}
    (hf : ∀ v u, Plain addrs s u → u = (resolve s sz pw e).2 → Gives (Plain addrs s) (f (v, u))) :
    Gives (Plain addrs s) (loadEa s sz pw e >>= f) :=
  (gives_loadEa (.refl addrs s) sz pw e).bind fun p hp => hf p.1 p.2 hp.1 hp.2

theorem gives_arithToD (op : Long → Long → Bool → Size → Alu) (sz : Size) (ea : Ea) (n : Fin 8) (s : State) :
    Gives (Plain addrs s) (arithToD op sz ea n s) :=
  gives_load_then _ _ _ _ fun _ _ h _ => .ok ((h.setDsz _ _ _).xnzvc _ _ _ _ _)

theorem gives_arithToEa (op : Long → Long → Bool → Size → Alu) (sz : Size) (src pw : Long) (ea : Ea) (s : State) :
    Gives (Plain (eaBytes s sz pw ea) s) (arithToEa op sz src pw ea s) :=
  gives_modifyEa (.refl _ s) (List.Subset.refl _) fun _ _ => withXnzvc_ushiftRight ..

theorem gives_arithQuick (op : Long → Long → Bool → Size → Alu) (q : Fin 8) (sz : Size) (ea : Ea) (s : State) :
    Gives (Plain (eaBytes s sz (firstExt s) ea) s) (arithQuick op q sz ea s) := by
  cases ea with
  | areg n => exact .ok ((Plain.refl _ s).setAn _ _)
  | _ => exact gives_arithToEa op sz (quick q) (firstExt s) _ s

theorem gives_arithToA (op : Long → Long → Bool → Size → Alu) (sz : Size) (ea : Ea) (n : Fin 8) (s : State) :
    Gives (Plain addrs s) (arithToA op sz ea n s) :=
  gives_load_then _ _ _ _ fun _ _ h _ => .ok (h.setAn _ _)

theorem gives_arithX (op : Long → Long → Bool → Size → Alu) (sz : Size) (f : XForm) (y x : Fin 8) (s : State) :
    Gives (Plain (extendedBytes s sz f y x) s) (arithX op sz f y x s) := by
  cases f with
  | regs => exact .ok (((Plain.refl _ s).setDsz _ _ _).xnzvc _ _ _ _ _)
  | mem =>
    refine gives_load_then _ _ _ _ fun _ u h hu => ?_
    subst hu
    exact gives_modifyEa h (List.Subset.refl _) fun _ _ => withXnzvc_ushiftRight ..

theorem gives_logicToD (op : Long → Long → Long) (sz : Size) (ea : Ea) (n : Fin 8) (s : State) :
    Gives (Plain addrs s) (logicToD op sz ea n s) :=
  gives_load_then _ _ _ _ fun _ _ h _ => .ok ((h.setDsz _ _ _).nzvc _ _ _ _)

theorem gives_logicToEa (op : Long → Long → Long) (sz : Size) (src : Long) (ea : Ea) (s : State) :
    Gives (Plain (eaBytes s sz (firstExt s) ea) s) (logicToEa op sz src ea s) :=
  gives_modifyEa (.refl _ s) (List.Subset.refl _) fun _ _ => withNzvc_ushiftRight ..

theorem gives_bitTest (number pw : Long) (ea : Ea) (s : State) : Gives (Plain addrs s) (bitTest number pw ea s) :=
  gives_load_then _ _ _ _ fun _ _ h _ => .ok (h.setSr (withZ_ushiftRight ..))

theorem gives_bitModify (kind : BitKind) (number pw : Long) (ea : Ea) (s : State) :
    Gives (Plain (eaBytes s (bitSize ea) pw ea) s) (bitModify kind number pw ea s) :=
  gives_modifyEa (.refl _ s) (List.Subset.refl _) fun _ _ => withZ_ushiftRight ..

theorem gives_shiftEa (kind : ShiftKind) (dir : ShiftDir) (ea : Ea) (s : State) :
    Gives (Plain (eaBytes s .w (firstExt s) ea) s) (shiftEa kind dir ea s) :=
  gives_modifyEa (.refl _ s) (List.Subset.refl _) fun _ _ => withXnzvc_ushiftRight ..

theorem plain_shiftD (kind : ShiftKind) (dir : ShiftDir) (sz : Size) (k : ShiftCount) (n : Fin 8) (s : State) :
    Plain addrs s (shiftD kind dir sz k n s) :=
  ((Plain.refl _ s).setDsz _ _ _).xnzvc _ _ _ _ _

theorem Plain.bcdDone (h : Plain addrs s t) (r : Byte) (c : Bool) : Plain addrs s (bcdDone t r c) :=
  h.drawn.drawn.xnzvc _ _ _ _ _

theorem gives_bcdBinary (op : Byte → Byte → Bool → Byte × Bool) (f : XForm) (y x : Fin 8) (s : State) :
    Gives (Plain (extendedBytes s .b f y x) s) (bcdBinary op f y x s) := by
  cases f with
  | regs => exact .ok (((Plain.refl _ s).setDsz _ _ _).bcdDone _ _)
  | mem =>
    refine gives_load_then _ _ _ _ fun v u h hu => ?_
    subst hu
    have hb := bytes_resolve_subset (resolve s .b 0 (.preDec y)).2 .b 0 (.preDec x)
    exact Gives.bind (.any _) fun d _ =>
      (gives_writeLoc (h.resolve .b 0 (.preDec x)) hb).bind fun _ hw => .ok (hw.bcdDone _ _)

theorem gives_moveEa (sz : Size) (src dst : Ea) (s : State) :
    Gives (Plain (moveBytes s sz src dst) s) (moveEa sz src dst s) := by
  refine gives_load_then _ _ _ _ fun v u h hu => ?_
  have ha : eaBytes u sz (firstExt u) dst ⊆ moveBytes s sz src dst := by
    subst hu
    rw [moveBytes, firstExt, firstExt, resolve_pc0]
    exact List.Subset.refl _
  exact (gives_storeEa h ha).bind fun _ hw => .ok (hw.nzvc _ _ _ _)

theorem gives_moveaEa (sz : Size) (src : Ea) (n : Fin 8) (s : State) : Gives (Plain addrs s) (moveaEa sz src n s) :=
  gives_load_then _ _ _ _ fun _ _ h _ => .ok (h.setAn _ _)

theorem Plain.compared (h : Plain addrs s t) (sz : Size) (src dst : Long) : Plain addrs s (compared t sz src dst) :=
  h.nzvc _ _ _ _

/-! ### Lists of registers -/

theorem Plain.setReg (h : Plain addrs s t) (k : Nat) (v : Long) : Plain addrs s (setReg t k v) := by
  unfold Machine.setReg
  split
  · exact h.setD _ _
  · exact h.setAn _ _

theorem gives_storeUp (sz : Size) (old : State) (ks : List Nat) (a : Long) (h : Plain addrs s t)
    (ha : byteRun a (sz.bytes * ks.length) ⊆ addrs) : Gives (Plain addrs s) (storeUp sz old ks a t) := by
  induction ks generalizing a t with
  | nil => exact .ok h
  | cons k rest ih =>
    rw [List.length_cons, Nat.mul_succ] at ha
    have h0 := byteRun_subset a (i := 0) (m := sz.bytes) (n := sz.bytes * rest.length + sz.bytes) (by omega)
    rw [BitVec.add_zero] at h0
    have h1 := byteRun_subset a (i := sz.bytes) (m := sz.bytes * rest.length) (n := sz.bytes * rest.length + sz.bytes)
      (by omega)
    exact (gives_memWrite h (List.Subset.trans h0 ha)).bind fun _ hw => ih _ hw (List.Subset.trans h1 ha)

theorem gives_storeDown (sz : Size) (old : State) (ks : List Nat) (a : Long) (h : Plain addrs s t)
    (ha : byteRun (a - BitVec.ofNat 32 (sz.bytes * ks.length)) (sz.bytes * ks.length) ⊆ addrs) :
    Gives (fun p => Plain addrs s p.2) (storeDown sz old ks a t) := by
  induction ks generalizing a t with
  | nil => exact .ok h
  | cons k rest ih =>
    have hlow : a - BitVec.ofNat 32 (sz.bytes * (rest.length + 1)) =
        a - BitVec.ofNat 32 sz.bytes - BitVec.ofNat 32 (sz.bytes * rest.length) := by
      rw [BitVec.sub_sub, Nat.mul_succ, Nat.add_comm, BitVec.ofNat_add]
    rw [List.length_cons, hlow] at ha
    have h0 := byteRun_subset (a - BitVec.ofNat 32 sz.bytes - BitVec.ofNat 32 (sz.bytes * rest.length)) (i := 0)
      (m := sz.bytes * rest.length) (n := sz.bytes * (rest.length + 1)) (by rw [Nat.mul_succ]; omega)
    have h1 := byteRun_subset (a - BitVec.ofNat 32 sz.bytes - BitVec.ofNat 32 (sz.bytes * rest.length))
      (i := sz.bytes * rest.length) (m := sz.bytes) (n := sz.bytes * (rest.length + 1)) (Nat.le_of_eq (Nat.mul_succ _ _).symm)
    rw [BitVec.add_zero] at h0
    rw [BitVec.sub_add_cancel] at h1
    exact (gives_memWrite h (List.Subset.trans h1 ha)).bind fun _ hw => ih _ hw (List.Subset.trans h0 ha)

theorem gives_loadUp (sz : Size) (ks : List Nat) (a : Long) (h : Plain addrs s t) :
    Gives (fun p => Plain addrs s p.2) (loadUp sz ks a t) := by
  induction ks generalizing a t with
  | nil => exact .ok h
  | cons k rest ih => exact Gives.bind (.any _) fun _ _ => ih _ (h.setReg _ _)

theorem length_maskDown (mask : Word) : (maskDown mask).length = (maskBits mask).length := List.length_map _

theorem gives_movemStore (sz : Size) (mask : Word) (ea : Ea) (s : State) :
    Gives (Plain (movemBytes s sz mask ea) s) (match ea with
      | .preDec n => do
        let (a, t) ← storeDown sz s (maskDown mask) (getAn s n) s
        return setAn t n a
      | e => storeUp sz s (maskBits mask) (eaAddr s (secondExt s) e) s) := by
  cases ea with
  | preDec n =>
    refine (gives_storeDown sz s (maskDown mask) (getAn s n) (.refl _ s) ?_).bind fun p hp => .ok (hp.setAn _ _)
    rw [length_maskDown]
    exact List.Subset.refl _
  | _ => exact gives_storeUp _ _ _ _ (.refl _ s) (List.Subset.refl _)

theorem gives_movemLoad (sz : Size) (mask : Word) (ea : Ea) (s : State) :
    Gives (Plain addrs s) (loadUp sz (maskBits mask) (eaAddr s (secondExt s) ea) s >>= fun p =>
      match ea with
      | .postInc n => pure (setAn p.2 n p.1)
      | _ => pure p.2) := by
  refine (gives_loadUp sz _ _ (.refl addrs s)).bind fun p hp => ?_
  cases ea with
  | postInc n => exact .ok (hp.setAn _ _)
  | _ => exact .ok hp

/-- MOVEP's stores, each a byte of `addrs`. -/
theorem plain_movepStore (bytes : List Byte) (a : Long) (h : Plain addrs s t)
    (ha : ∀ k < bytes.length, busAddr (a + BitVec.ofNat 32 (2 * k)) ∈ addrs) : Plain addrs s (movepStore bytes a t) := by
  induction bytes generalizing a t with
  | nil => exact h
  | cons b rest ih =>
    have h0 : busAddr a ∈ addrs := by simpa using ha 0 (by simp)
    refine ih (a + 2) (h.trans ⟨⟨rfl, Bus.writeM_rom .., Bus.writeM_pads .., rfl, Bus.wf_writeM _ _ _, fun k hk =>
      Bus.readM_writeM_ne _ _ fun e => hk (e ▸ h0)⟩, rfl, rfl, rfl⟩) fun k hk => ?_
    have := ha (k + 1) (by simpa using hk)
    rwa [Nat.mul_succ, Nat.add_comm, BitVec.ofNat_add, ← BitVec.add_assoc] at this

theorem plain_movep (o : MovepMode) (x y : Fin 8) (d : Word) (s : State) :
    ∃ t, execMovep o x y d s = .next t ∧ Plain (movepBytes s o y d) s t := by
  refine ⟨_, rfl, ?_⟩
  have h (l : List (BitVec 24)) := Plain.refl l s
  cases o with
  | wToReg => exact (h _).setDsz _ _ _
  | lToReg => exact (h _).setD _ _
  | wToMem | lToMem =>
    refine plain_movepStore _ _ (h _) fun k hk => ?_
    exact List.mem_map.2 ⟨k, List.mem_range.2 hk, rfl⟩

/-! ### Operations that may take an exception -/

/-- A division by zero after the operand's side effect. -/
theorem gives_divideByZero (h : Plain (frameBytes u) s u) : Gives (Keeps (frameBytes u) s) (divideByZero u) := by
  have hk := (Plain.refl [] u).drawn.drawn.drawn.nzvc (Config.freeBit u.draws) (Config.freeBit (u.draws + 1))
    (Config.freeBit (u.draws + 2)) false
  exact gives_exception_after (h.drawn.drawn.drawn.nzvc _ _ _ _) hk.system rfl _ _

theorem Plain.divideOverflow (h : Plain addrs s t) : Plain addrs s (divideOverflow t) := h.drawn.drawn.nzvc _ _ _ _

theorem Plain.quotient (h : Plain addrs s t) (n : Fin 8) (q rem : Word) : Plain addrs s (quotient t n q rem) :=
  (h.setD _ _).nzvc _ _ _ _

/-- A read of a word, and then an operation that may take an exception. -/
theorem gives_load_or_trap (s : State) (ea : Ea) {f : Long × State → Except Fault State}
    (hf : ∀ v u, Plain (frameBytes u) s u → Gives (Keeps (frameBytes u) s) (f (v, u))) :
    Gives (Keeps (frameAfter s ea) s) (loadEa s .w (firstExt s) ea >>= f) := by
  refine (gives_loadEa (.refl (frameAfter s ea) s) .w (firstExt s) ea).bind fun ⟨v, u⟩ ⟨h, hu⟩ => ?_
  change u = _ at hu
  subst hu
  exact hf v _ h

theorem gives_requireSupervisor (s : State) {act : Except Fault State}
    (h : supervisor s = true → Gives (Keeps [] s) act) :
    Gives (Keeps (if supervisor s then [] else frameBytes s) s) (requireSupervisor s act) := by
  unfold requireSupervisor
  cases hs : supervisor s with
  | true => exact h hs
  | false => exact gives_takeException s 0x20 s.m.pc0

theorem busKeeps_of_pop (h : BusKeeps addrs s t) (sz : Size) : Gives (fun p => BusKeeps addrs s p.2) (pop t sz) :=
  (gives_pop (.refl addrs t) sz).imp fun _ k => h.trans k.bus

theorem gives_returnFromException (hs : supervisor s = true) : Gives (Keeps [] s) (returnFromException s) := by
  refine (busKeeps_of_pop (.refl [] s) .w).bind fun p hp => (busKeeps_of_pop hp .l).bind fun q hq => .ok ?_
  have hk := keeps_writeSR hs hq (p.1.extractLsb' 0 16)
  exact keeps_of_supervisor hs (hk.bus.trans (.of_bus rfl rfl rfl)) hk.legal

/-! ### Every instruction -/

/-- The outcome is a next state with the property, or a fatal condition: never a refusal. -/
def Ends (P : State → Prop) (o : Host.Outcome State Fault Refusal) : Prop := (∃ t, o = .next t ∧ P t) ∨ ∃ f, o = .fault f

theorem Ends.next {P : State → Prop} {t : State} (h : P t) : Ends P (.next t) := .inl ⟨t, rfl, h⟩

theorem Ends.finish {P : State → Prop} {r : Except Fault State} (h : Gives P r) : Ends P (finish r) := by
  cases r with
  | ok t => exact .next (h.of_ok t rfl)
  | error f => exact .inr ⟨f, rfl⟩

theorem Ends.plain {o : Host.Outcome State Fault Refusal} (h : Ends (Plain addrs s) o) : Ends (Keeps addrs s) o :=
  h.imp_left fun ⟨t, e, k⟩ => ⟨t, e, k.keeps⟩

/-- A change of data, grouped by the operation an arm calls; the instructions that reach system state are apart. -/
theorem exec_m68k_ends (i : Instr) (s : State) (hi : i.cpu = .m68k) : Ends (Keeps (storesOf i s) s) (exec i s) := by
  have h (l : List (BitVec 24)) := Plain.refl l s
  cases i with
  | addEaD | subEaD => exact .plain (.finish (gives_arithToD ..))
  | addDEa | subDEa | addiEa | subiEa => exact .plain (.finish (gives_arithToEa ..))
  | addq | subq => exact .plain (.finish (gives_arithQuick ..))
  | adda | suba => exact .plain (.finish (gives_arithToA ..))
  | addx | subx => exact .plain (.finish (gives_arithX ..))
  | negEa | negx =>
    exact .plain (.finish (gives_modifyEa (h _) (List.Subset.refl _) fun _ _ => withXnzvc_ushiftRight ..))
  | cmpEaD | cmpa | cmpiEa => exact .plain (.finish (gives_load_then _ _ _ _ fun _ _ k _ => .ok (k.compared _ _ _)))
  | cmpm =>
    exact .plain (.finish (gives_load_then _ _ _ _ fun _ _ k _ =>
      (gives_loadEa k _ _ _).bind fun _ m => .ok (m.1.compared _ _ _)))
  | mulu | muls => exact .plain (.finish (gives_load_then _ _ _ _ fun _ _ k _ => .ok ((k.setD _ _).nzvc _ _ _ _)))
  | divu =>
    exact .finish (gives_load_or_trap _ _ fun _ _ k => .ite (fun _ => gives_divideByZero k) fun _ =>
      .ite (fun _ => .ok k.divideOverflow.keeps) fun _ => .ok (k.quotient _ _ _).keeps)
  | divs =>
    exact .finish (gives_load_or_trap _ _ fun _ _ k => .ite (fun _ => gives_divideByZero k) fun _ =>
      .ite (fun _ => .ok k.divideOverflow.keeps) fun _ => .ok (k.quotient _ _ _).keeps)
  | andEaD | orEaD => exact .plain (.finish (gives_logicToD ..))
  | andDEa | orDEa | eorDEa | andiEa | oriEa | eoriEa => exact .plain (.finish (gives_logicToEa ..))
  | notEa | tas => exact .plain (.finish (gives_modifyEa (h _) (List.Subset.refl _) fun _ _ => withNzvc_ushiftRight ..))
  | andiCcr | oriCcr | eoriCcr => exact .plain (.next ((h _).writeCCR _))
  | moveToCcr => exact .plain (.finish (gives_load_then _ _ _ _ fun _ _ k _ => .ok (k.writeCCR _)))
  | moveFromSr | scc => exact .plain (.finish (gives_storeEa (h _) (List.Subset.refl _)))
  | btstD | btstN => exact .plain (.finish (gives_bitTest ..))
  | bchgD | bchgN | bclrD | bclrN | bsetD | bsetN => exact .plain (.finish (gives_bitModify ..))
  | abcd | sbcd => exact .plain (.finish (gives_bcdBinary ..))
  | nbcd =>
    exact .plain (.finish (Gives.bind (.any _) fun v _ =>
      (gives_writeLoc ((h _).resolve _ _ _) (bytes_resolve_subset _ _ _ _)).bind fun _ hw => .ok (hw.bcdDone _ _)))
  | moveB | moveW | moveL => exact .plain (.finish (gives_moveEa ..))
  | moveaW | moveaL => exact .plain (.finish (gives_moveaEa ..))
  | moveq | swap => exact .plain (.next (((h _).setD _ _).nzvc _ _ _ _))
  | ext => exact .plain (.next (((h _).setDsz _ _ _).nzvc _ _ _ _))
  | clr => exact .plain (.finish ((gives_storeEa (h _) (List.Subset.refl _)).bind fun _ k => .ok (k.nzvc _ _ _ _)))
  | tst => exact .plain (.finish (gives_load_then _ _ _ _ fun _ _ k _ => .ok (k.nzvc _ _ _ _)))
  | movemStore => exact .plain (.finish (gives_movemStore ..))
  | movemLoad => exact .plain (.finish (gives_movemLoad ..))
  | movep o x y d => exact .plain (.inl (plain_movep o x y d s))
  | lea => exact .plain (.next ((h _).setAn _ _))
  | pea => exact .plain (.finish (gives_push (h _) (List.Subset.refl _)))
  | exgDD => exact .plain (.next (((h _).setD _ _).setD _ _))
  | exgAA => exact .plain (.next (((h _).setAn _ _).setAn _ _))
  | exgDA => exact .plain (.next (((h _).setD _ _).setAn _ _))
  | aslReg | asrReg | lslReg | lsrReg | rolReg | rorReg | roxlReg | roxrReg => exact .plain (.next (plain_shiftD ..))
  | aslMem | asrMem | lslMem | lsrMem | rolMem | rorMem | roxlMem | roxrMem => exact .plain (.finish (gives_shiftEa ..))
  | bra | jmp => exact .plain (.next ((h _).setPc _))
  | bsr | jsr => exact .plain (.finish ((gives_push (h _) (List.Subset.refl _)).bind fun _ k => .ok (k.setPc _)))
  | bcc cond d =>
    refine .plain (.next ?_)
    split
    · exact (h _).setPc _
    · exact h _
  | dbcc cond n d =>
    refine .plain (.next ?_)
    split
    · exact (h _).setPc _
    · dsimp only
      split <;> exact ((h _).setDsz _ _ _).setPc _
  | rts => exact .plain (.finish ((gives_pop (h _) .l).bind fun _ k => .ok (k.setPc _)))
  | rtr =>
    exact .plain (.finish ((gives_pop (h _) .w).bind fun _ k =>
      (gives_pop (k.writeCCR _) .l).bind fun _ m => .ok (m.setPc _)))
  | link n d =>
    refine .plain (.finish ((gives_memWrite ((h _).setAn 7 _) ?_).bind fun _ k => .ok ((k.setAn _ _).setAn _ _)))
    rw [getAn_setAn_same]
    exact List.Subset.refl _
  | unlk => exact .plain (.finish ((gives_pop ((h _).setAn 7 _) .l).bind fun _ k => .ok (k.setAn _ _)))
  | nopM => exact .plain (.next (h _))
  | trap v =>
    refine .finish (Gives.bind (P := fun off => v.val < 15) ⟨fun off e => ?_⟩ fun off hv => ?_)
    · refine Decidable.byContradiction fun hv => ?_
      simp [trapVectorOffset, show v.val + 1 > 15 by omega] at e
    · simp only [storesOf, hv, if_true]
      exact gives_takeException s off s.m.pc
  | trapv =>
    simp only [exec, execTrapv, storesOf]
    split
    · exact .finish (gives_takeException ..)
    · exact .next (h _).keeps
  | chk ea n =>
    refine .finish (gives_load_or_trap _ _ fun _ u k => ?_)
    have hk := (Plain.refl [] u).drawn.drawn.drawn
    exact .ite (fun _ => gives_exception_after (k.drawn.drawn.drawn.nzvc _ _ _ _) (hk.nzvc _ _ _ _).system rfl _ _)
      fun _ => .ite (fun _ => gives_exception_after (k.drawn.drawn.drawn.nzvc _ _ _ _) (hk.nzvc _ _ _ _).system rfl _ _)
      fun _ => .ok (k.drawn.drawn.drawn.drawn.nzvc _ _ _ _).keeps
  | illegal | lineA | lineF => exact .finish (gives_takeException ..)
  | andiSr | oriSr | eoriSr => exact .finish (gives_requireSupervisor s fun hs => .ok (keeps_writeSR hs (.refl _ s) _))
  | moveToSr =>
    exact .finish (gives_requireSupervisor s fun hs => (gives_loadEa (h _) _ _ _).bind fun _ k =>
      .ok (keeps_writeSR hs k.1.bus _))
  | stop imm =>
    refine .finish (gives_requireSupervisor s fun hs => .ok ?_)
    have k := keeps_writeSR hs (.refl [] s) imm
    exact keeps_of_supervisor hs (k.bus.trans (.of_bus rfl rfl rfl)) k.legal
  | rte => exact .finish (gives_requireSupervisor s gives_returnFromException)
  | moveAnUsp =>
    exact .finish (gives_requireSupervisor s fun hs => .ok (keeps_of_supervisor hs (.of_bus rfl rfl rfl) id))
  | moveUspAn => exact .finish (gives_requireSupervisor s fun _ => .ok ((h _).setAn _ _).keeps)
  | reset =>
    exact .finish (gives_requireSupervisor s fun hs => .ok (keeps_of_supervisor hs (.of_bus rfl rfl rfl) id))
  | _ => cases hi

end Sys2Proof.Machine
end

section
/-! PROOFS. The block's step answers a next state and keeps the form of the state (60 R1200, R1202; 10_state.md R72, R76),
and what follows for single instructions: their stores, user mode, the isolation of the CPUs. -/

namespace Sys2Proof.Machine

/-! ### The form of the state -/

/-- The form of `s`, where `s` has it, is in `t`. -/
def KeepsForm (s t : State) : Prop := s.wf = true → t.wf = true

theorem wf_iff (s : State) : s.wf = true ↔ Bus.wf s.bus = true ∧ srLegal s.m.sr = true := by
  rw [State.wf, Bool.and_eq_true]

theorem keepsForm_of_eq {s t : State} (hb : t.bus = s.bus) (hs : t.m.sr = s.m.sr) : KeepsForm s t := by
  rw [KeepsForm, State.wf, State.wf, hb, hs]
  exact id

theorem ZKeeps.keepsForm {s t : State} (h : ZKeeps s t) : KeepsForm s t := fun hw => by
  rw [wf_iff] at hw ⊢
  exact ⟨h.form hw.1, h.m ▸ hw.2⟩

theorem Keeps.keepsForm {s t : State} {addrs : List (BitVec 24)} (h : Keeps addrs s t) : KeepsForm s t := fun hw => by
  rw [wf_iff] at hw ⊢
  exact ⟨h.bus.form hw.1, h.legal hw.2⟩

theorem keepsForm_faultZ80 (s : State) (f : Fault) : KeepsForm s (faultZ80 s f) := keepsForm_of_eq rfl rfl

theorem keepsForm_faultM68k (s : State) (f : Fault) (addrs : List (BitVec 24)) : KeepsForm s (faultM68k s f addrs) :=
  fun hw => (wf_iff _).2 ⟨Bus.wf_unspecifiedBytes _ _ _ ((wf_iff s).1 hw).1, srLegal_unspecifiedM68k ..⟩

/-! ### Single instructions -/

theorem exec_m68k_keeps {i : Instr} {s t : State} (hi : i.cpu = .m68k) (h : exec i s = .next t) :
    Keeps (storesOf i s) s t := by
  obtain ⟨u, e, k⟩ | ⟨f, e⟩ := exec_m68k_ends i s hi
  · rw [h] at e
    cases e
    exact k
  · rw [h] at e
    cases e

/-- No instruction is refused, and each that goes on keeps the form. -/
theorem exec_ends (i : Instr) (s : State) : Ends (KeepsForm s) (exec i s) := by
  cases hi : i.cpu with
  | z80 =>
    obtain ⟨t, e, k⟩ := exec_z80_runs i s hi
    exact .inl ⟨t, e, k.keepsForm⟩
  | m68k => exact (exec_m68k_ends i s hi).imp_left fun ⟨t, e, k⟩ => ⟨t, e, k.keepsForm⟩

/-! ### A step of the Z80 -/

/-- A step answers a next state, which has the form where the state had it. -/
def Answers (s : State) (o : Host.Outcome State Fault Refusal) : Prop := ∃ t, o = .next t ∧ KeepsForm s t

theorem Answers.next {s t : State} (h : KeepsForm s t) : Answers s (.next t) := ⟨t, rfl, h⟩

theorem Answers.mono {s t : State} {o : Host.Outcome State Fault Refusal} (h : KeepsForm s t) (k : Answers t o) :
    Answers s o := k.imp fun _ ⟨e, ku⟩ => ⟨e, fun hw => ku (h hw)⟩

theorem zKeeps_acceptNmi (s : State) : ZKeeps s (acceptNmi s) :=
  ((((((ZKeeps.refl s).setZ _).setZ _).setZ _).push16 _).setZ _).took 11

theorem zKeeps_beginInt (s : State) : ZKeeps s (beginInt s) := (((ZKeeps.refl s).setZ _).setZ _).emit _

theorem ZKeeps.enterInt {s t : State} (h : ZKeeps s t) (target : Word) : ZKeeps s (enterInt t target) :=
  (h.push16 _).setZ _

theorem keepsForm_acceptInt (s : State) : KeepsForm s (acceptInt s) := by
  have h := zKeeps_beginInt s
  rw [acceptInt]
  cases s.z.im with
  | im0 =>
    dsimp only [acceptIm0]
    split
    · exact ((h.enterInt _).took _).keepsForm
    · exact fun hw => keepsForm_faultZ80 _ _ (h.keepsForm hw)
  | im1 => exact ((h.enterInt _).took _).keepsForm
  | im2 => exact (((h.push16 _).setZ _).took _).keepsForm

theorem answers_endZ80 {s u : State} {o : Host.Outcome State Fault Refusal} (hu : KeepsForm s u) (h : Ends (KeepsForm u) o) :
    Answers s (endZ80 u o) := by
  obtain ⟨t, rfl, k⟩ | ⟨f, rfl⟩ := h
  · exact .next fun hw => k (hu hw)
  · exact .next fun hw => keepsForm_faultZ80 u f (hu hw)

theorem answers_runZ80 (s : State) : Answers s (runZ80 s) := by
  cases h : fetchZ80 s with
  | error f =>
    rw [runZ80_error h]
    exact .next (keepsForm_faultZ80 s f)
  | ok p =>
    rw [runZ80_ok h]
    exact answers_endZ80 (keepsForm_of_eq rfl rfl) (exec_ends _ _)

theorem answers_stepZ80 (s : State) : Answers s (stepZ80 s) := by
  unfold stepZ80
  cases s.z.faulted with
  | some f => exact .next (keepsForm_of_eq rfl rfl)
  | none =>
    dsimp only
    split
    · exact .next (zKeeps_acceptNmi s).keepsForm
    · split
      · exact .next (keepsForm_acceptInt s)
      · split
        · exact .next (keepsForm_of_eq rfl rfl)
        · exact answers_runZ80 s

/-! ### A step of the 68000 -/

theorem keepsForm_settle {s : State} {addrs : List (BitVec 24)} {r : Except Fault State} (h : Gives (KeepsForm s) r) :
    KeepsForm s (settle s addrs r) := by
  cases r with
  | ok t => exact h.of_ok t rfl
  | error f => exact keepsForm_faultM68k s f addrs

theorem gives_countCycles {s : State} {r : Except Fault State} (h : Gives (KeepsForm s) r) :
    Gives (KeepsForm s) (do return countCycles (← r)) :=
  h.bind fun _ k => .ok k

theorem gives_traceAfter (traced : Bool) (s : State) : Gives (KeepsForm s) (traceAfter traced s) :=
  .ite (fun _ => (gives_takeException ..).imp fun _ => Keeps.keepsForm) fun _ => .ok id

/-- The mask is in SR's bits 10 to 8, which exist (10_state.md R72). -/
theorem srLegal_setIntMask (sr : Word) (level : Nat) (h : srLegal sr) :
    srLegal ((sr &&& 0xF8FF) ||| BitVec.ofNat 16 (level % 8 * 256)) := by
  have hm : sr &&& ~~~ srMask = 0#16 := by simpa [srLegal] using h
  have hl : ∀ k : Fin 8, BitVec.ofNat 16 (k.val * 256) &&& ~~~ srMask = 0#16 := by decide
  have hk := hl ⟨level % 8, Nat.mod_lt _ (by decide)⟩
  rw [srLegal, BitVec.and_or_distrib_right, BitVec.and_assoc, BitVec.and_comm 0xF8FF, ← BitVec.and_assoc, hm, hk]
  rfl

theorem keepsForm_setIntMask (s : State) (level : Nat) : KeepsForm s (setIntMask s level) := fun hw => by
  rw [wf_iff] at hw ⊢
  exact ⟨hw.1, srLegal_setIntMask _ _ hw.2⟩

theorem gives_acceptM68k (s : State) (level : Nat) : Gives (KeepsForm s) (acceptM68k s level) := by
  refine Gives.bind (.any _) fun off _ => (gives_takeException s off s.m.pc).bind fun t k => .ok fun hw => ?_
  have ht := keepsForm_setIntMask t level (k.keepsForm hw)
  dsimp only
  split
  · exact ht
  · exact ht

theorem answers_endM68k {s u : State} {o : Host.Outcome State Fault Refusal} (traced : Bool) (addrs : List (BitVec 24))
    (hu : KeepsForm s u) (h : Ends (KeepsForm u) o) : Answers s (endM68k traced u addrs o) := by
  obtain ⟨t, rfl, k⟩ | ⟨f, rfl⟩ := h
  · exact .next fun hw => keepsForm_settle (gives_countCycles (gives_traceAfter traced t)) (k (hu hw))
  · exact .next fun hw => keepsForm_faultM68k u f addrs (hu hw)

theorem answers_runM68k (s : State) : Answers s (runM68k s) := by
  cases h : fetchM68k s with
  | error f =>
    rw [runM68k_error h]
    exact .next (keepsForm_faultM68k s f [])
  | ok p =>
    rw [runM68k_ok h]
    exact answers_endM68k _ _ (keepsForm_of_eq rfl rfl) (exec_ends _ _)

theorem answers_stepM68k (s : State) : Answers s (stepM68k s) := by
  unfold stepM68k
  cases s.m.faulted with
  | some f => exact .next (keepsForm_of_eq rfl rfl)
  | none =>
    dsimp only
    cases pendingLevel s with
    | some level => exact .next (keepsForm_settle (gives_countCycles (gives_acceptM68k s level)))
    | none =>
      dsimp only
      split
      · exact .next (keepsForm_of_eq rfl rfl)
      · exact answers_runM68k s

/-! ### The host's turn -/

theorem gives_resetM68k (s : State) : Gives (KeepsForm s) (resetM68k s) := by
  unfold resetM68k
  cases s.bus.rom with
  | none => exact ⟨fun _ e => nomatch e⟩
  | some im =>
    refine Gives.bind (.any _) fun ssp _ => Gives.bind (.any _) fun pc _ => .ok fun hw => ?_
    rw [wf_iff] at hw ⊢
    have : srLegal 0x2700 = true := by decide
    exact ⟨hw.1, this⟩

theorem answers_runCall (c : Call) (s : State) : Answers s (runCall c s) := by
  have hb : KeepsForm s s.begun := keepsForm_of_eq rfl rfl
  cases c with
  | reset cpu =>
    cases cpu with
    | z80 => exact .next (keepsForm_of_eq rfl rfl)
    | m68k => exact .mono hb (.next (keepsForm_settle (gives_resetM68k s.begun)))
  | execute cpu =>
    cases cpu with
    | z80 => exact .mono hb (answers_stepZ80 s.begun)
    | m68k => exact .mono hb (answers_stepM68k s.begun)

theorem keepsForm_applyDrive (s : State) (d : Drive) : KeepsForm s (applyDrive s d) := by
  cases d with
  | ipl level =>
    refine keepsForm_of_eq rfl ?_
    simp only [applyDrive]
    split <;> rfl
  | _ => exact keepsForm_of_eq rfl rfl

theorem keepsForm_applyDrives (s : State) (ds : List Drive) : KeepsForm s (applyDrives s ds) := by
  induction ds generalizing s with
  | nil => exact id
  | cons d rest ih => exact fun hw => ih _ (keepsForm_applyDrive s d hw)

theorem answers_step (s : State) : Answers s (step s) := by
  cases h : s.host.script with
  | nil =>
    rw [step, hostTurn, h]
    exact answers_runCall _ s
  | cons t rest =>
    rw [step_script h]
    have hr : KeepsForm s { s with host := { s.host with script := rest } } := keepsForm_of_eq rfl rfl
    exact .mono hr (.mono (keepsForm_applyDrives _ t.drives) (answers_runCall _ _))

/-! ### The obligations -/

/-- Settles O52: every outcome of a step is a next state that has the form where the state had it. -/
theorem stepKeepsForm : Obligations.StepKeepsForm := fun s t hs h => by
  obtain ⟨u, e, k⟩ := answers_step s
  rw [h] at e
  cases e
  exact k hs

/-- Settles O38: an instruction that goes on keeps the bytes outside `storesOf`. -/
theorem m68kStores : Obligations.M68kStores := fun _ _ _ a hi h ha => (exec_m68k_keeps hi h).bus.reads a ha

/-- Settles O59: user mode is left or keeps the system state. -/
theorem userModeContained : Obligations.UserModeContained := fun i s t hi hs h ht => by
  obtain h' | ⟨hsr, hsp, hst⟩ := (exec_m68k_keeps hi h).contained hs
  · rw [ht] at h'
    cases h'
  · exact ⟨hsr, hsp, hst⟩

/-- Settles O60: a Z80 instruction ends, and neither CPU's instructions reach what is the other's. -/
theorem isolation : Obligations.Isolation := fun i s => by
  refine ⟨fun hi => ?_, fun hi t h => ?_⟩
  · obtain ⟨t, e, k⟩ := exec_z80_runs i s hi
    exact ⟨t, e, k.m, k.wram, k.rom, k.pads, k.host⟩
  · have k := (exec_m68k_keeps hi h).bus
    exact ⟨k.z, k.rom, k.pads, k.host⟩

/-- Settles O51: by evaluation of the reset state. -/
theorem resetKeepsForm : Obligations.ResetKeepsForm := by
  unfold Obligations.ResetKeepsForm
  decide

end Sys2Proof.Machine
end

section
/-! PROOFS. What a fatal condition leaves, when a step meets one, and that every step goes on (60 R1200 to R1202). -/

namespace Sys2Proof.Machine

open Sys2Proof.Claims

theorem afterFatal_faultZ80 (s : State) (f : Fault) : AfterFatal .z80 f [] s (faultZ80 s f) :=
  ⟨rfl, rfl, rfl, rfl, rfl, fun _ _ => rfl, rfl, rfl, rfl⟩

theorem afterFatal_faultM68k (s : State) (f : Fault) (addrs : List (BitVec 24)) :
    AfterFatal .m68k f addrs s (faultM68k s f addrs) :=
  ⟨rfl, rfl, rfl, unspecifiedBytes_rom .., unspecifiedBytes_pads .., fun _ ha => readM_unspecifiedBytes _ _ _ _ ha,
    rfl, rfl, rfl⟩

theorem fatalLeaves : FatalLeaves := fun s f addrs =>
  ⟨⟨afterFatal_faultZ80 s f, rfl⟩, afterFatal_faultM68k s f addrs,
    fun hw => ⟨keepsForm_faultZ80 s f hw, keepsForm_faultM68k s f addrs hw⟩⟩

/-- The bytes the Z80's fetch reads, with the first at PC + 0 (30_encoding.md R260). -/
theorem bytesZ80_eq (s : State) :
    bytesZ80 s = [Bus.readZ s.bus (s.z.pc + 0), Bus.readZ s.bus (s.z.pc + 1), Bus.readZ s.bus (s.z.pc + 2),
      Bus.readZ s.bus (s.z.pc + 3)] := by
  simp [bytesZ80, readZ8]

/-- A word of the 68000's fetch: two bytes at the bus address (30_encoding.md R275). -/
def fetchWord (s : State) (k : BitVec 24) : Word :=
  Bus.readM s.bus (busAddr s.m.pc + k) ++ Bus.readM s.bus (busAddr s.m.pc + k + 1)

theorem wordAt_pc_add (s : State) (k : Nat) : wordAt s (s.m.pc + BitVec.ofNat 32 k) = fetchWord s (BitVec.ofNat 24 k) := by
  rw [wordAt, readM16, busAddr_add]
  rfl

theorem wordsM68k_eq (s : State) :
    wordsM68k s = [fetchWord s 0, fetchWord s 2, fetchWord s 4, fetchWord s 6, fetchWord s 8] := by
  have h0 : wordAt s s.m.pc = fetchWord s 0 := by
    have := wordAt_pc_add s 0
    rwa [BitVec.add_zero] at this
  have h2 : wordAt s (s.m.pc + 2) = fetchWord s 2 := wordAt_pc_add s 2
  have h4 : wordAt s (s.m.pc + 4) = fetchWord s 4 := wordAt_pc_add s 4
  have h6 : wordAt s (s.m.pc + 6) = fetchWord s 6 := wordAt_pc_add s 6
  have h8 : wordAt s (s.m.pc + 8) = fetchWord s 8 := wordAt_pc_add s 8
  rw [wordsM68k, h0, h2, h4, h6, h8]

/-- A Z80 step at an empty slot (30_encoding.md R254). -/
theorem stepZ80_unknown {s : State} {map : OpMap} {op : Nat} (hf : s.z.faulted = none) (hn : s.z.nmiPending = false)
    (hi : intPendingZ80 s = false) (hh : s.z.halted = false) (hd : decodeZ80 (bytesZ80 s) = .unknown map op) :
    stepZ80 s = .next (faultZ80 s (.unknownOpcode map op)) := by
  rw [stepZ80_run hf hn hi hh]
  exact runZ80_error (by rw [fetchZ80, hd]; rfl)

/-- A 68000 step whose fetch is fatal. -/
theorem stepM68k_fetch_error {s : State} {f : Fault} (hf : s.m.faulted = none) (hn : s.m.nmi7Pending = false)
    (hi : s.host.ipl.val ≤ intMask s) (hs : s.m.stopped = false) (he : fetchM68k s = .error f) :
    stepM68k s = .next (faultM68k s f []) := by
  rw [stepM68k_run hf (pendingLevel_none hi hn) hs]
  exact runM68k_error he

theorem isEven_eq_false {v : Long} (h : isEven v = false) : v.getLsbD 0 = true := by simpa [isEven] using h

theorem isEven_eq_true {v : Long} (h : isEven v = true) : v.getLsbD 0 = false := by simpa [isEven] using h

theorem faultedSteps : FaultedSteps := fun s map op f => by
  refine ⟨fun h => stepZ80_faulted h, fun h => stepM68k_faulted h, fun hf hn hi hh hd => ?_, fun hf hn hi hs => ⟨fun ho => ?_,
    fun he hd => ?_⟩⟩
  · exact stepZ80_unknown hf hn hi hh (by rw [bytesZ80_eq]; exact hd)
  · exact stepM68k_fetch_error hf hn hi hs (fetchM68k_odd (isEven_eq_false ho))
  · refine stepM68k_fetch_error hf hn hi hs ?_
    have hd' : decodeWords (wordsM68k s) = .unknown map op := by rw [wordsM68k_eq]; exact hd
    rw [fetchM68k_even (isEven_eq_true he), hd']
    rfl

theorem stepAnswers : StepAnswers := fun s =>
  ⟨(answers_step s).imp fun _ h => h.1, (answers_stepZ80 s).imp fun _ h => h.1, (answers_stepM68k s).imp fun _ h => h.1⟩

/-- Settles O55: the three parts. -/
theorem stepStops : Obligations.StepStops := ⟨fatalLeaves, faultedSteps, stepAnswers⟩

end Sys2Proof.Machine
end

section
/-! PROOFS. What a step of either CPU runs, the interrupts, and the host's turns (60 R1260 to R1272; 00_scope.md R10). -/

namespace Sys2Proof.Machine

open Sys2Proof.Claims

/-! ### Running an instruction: the Z80 -/

theorem bumpR_bumpR (r : Byte) : bumpR (bumpR r) = (r &&& 0x80) ||| ((r + 2) &&& 0x7F) := by
  revert r; decide

/-- R is counted once per opcode fetch: twice where the first byte selects a map (30_encoding.md R257, R258). -/
theorem bumpTimes_m1Fetches (b r : Byte) : bumpTimes (m1Fetches b) r =
    (r &&& 0x80) ||| ((r + if b ∈ [(0xCB : Byte), 0xED, 0xDD, 0xFD] then 2 else 1) &&& 0x7F) := by
  have hb : b ∈ [(0xCB : Byte), 0xED, 0xDD, 0xFD] ↔ b = 0xCB ∨ b = 0xED ∨ b = 0xDD ∨ b = 0xFD := by simp
  by_cases h : b = 0xCB ∨ b = 0xED ∨ b = 0xDD ∨ b = 0xFD
  · rw [m1Fetches, if_pos h, if_pos (hb.2 h)]
    exact bumpR_bumpR r
  · rw [m1Fetches, if_neg h, if_neg (mt hb.1 h)]
    rfl

/-- A Z80 step with nothing pending is the end of the decoded instruction. -/
theorem stepZ80_decoded {s : State} {i : Instr} {len : Nat} (hf : s.z.faulted = none) (hn : s.z.nmiPending = false)
    (hi : intPendingZ80 s = false) (hh : s.z.halted = false) (hd : decodeZ80 (bytesZ80 s) = .ok i len) {t : State}
    (he : exec i (advanceZ80 (s.setZ { s.z with eiDelay := false }) len) = .next t) : stepZ80 s = .next t := by
  have h : fetchZ80 s = .ok (i, len) := by rw [fetchZ80, hd]; rfl
  rw [stepZ80_run hf hn hi hh, runZ80_ok h, he]
  rfl

/-- Settles O53: `stepZ80_decoded` for the step of the Z80, and for the block's with the returned condition cleared. -/
theorem stepRunsZ80 : Obligations.StepRunsZ80 := fun s i len => by
  have h0 : Bus.readZ s.bus (s.z.pc + 0) = Bus.readZ s.bus s.z.pc := congrArg _ (BitVec.add_zero _)
  have hr := bumpTimes_m1Fetches (Bus.readZ s.bus (s.z.pc + 0)) s.z.r
  rw [h0] at hr
  intro pc b fetches u hf hn hi hh hd
  have hd' : decodeZ80 (bytesZ80 s) = .ok i len := by rw [bytesZ80_eq]; exact hd
  have hu : advanceZ80 (s.setZ { s.z with eiDelay := false }) len = u := by
    simp only [u, fetches, b, pc, h0, ← hr]
    rfl
  refine ⟨fun t he => stepZ80_decoded hf hn hi hh hd' (hu ▸ he), fun hs ht t he => ?_⟩
  rw [step_execute hs, ht]
  refine stepZ80_decoded (s := s.begun) hf hn hi hh hd' ?_
  rw [← he, ← hu]
  rfl

/-! ### Running an instruction: the 68000 -/

/-- The instructions that take the illegal, line or privilege exception (60 R1262). -/
theorem untraced_iff (i : Instr) (s : State) : untraced i s = true ↔ (i = .illegal ∨ (∃ x, i = .lineA x) ∨
    (∃ x, i = .lineF x) ∨ (privileged i = true ∧ s.m.sr.getLsbD 13 = false)) := by
  unfold untraced
  split
  · simp
  · simp
  · simp
  · next h1 h2 h3 => simp_all [supervisor]

/-- What the end of an instruction leaves (60 R1202, R1262, R1263): `T` is the trace bit before it, `x` says that it is not
traced. -/
theorem endM68k_runs {T x : Bool} {E : Prop} (hx : x = true ↔ E) (u : State) (addrs : List (BitVec 24))
    (o : Host.Outcome State Fault Refusal) :
    (∀ f, o = .fault f → endM68k (T && !x) u addrs o = .next (faultM68k u f addrs)) ∧
    ∀ t, o = .next t →
      (T = false ∨ E → endM68k (T && !x) u addrs o = .next (countCycles t)) ∧
      (T = true → ¬ E → isEven (supervisorSp t) = true →
        endM68k (T && !x) u addrs o = .next (countCycles (afterException t 0x24 t.m.pc))) ∧
      (T = true → ¬ E → isEven (supervisorSp t) = false → endM68k (T && !x) u addrs o =
        .next (faultM68k t (.misalignedAccess ((supervisorSp t - 4).extractLsb' 0 24)) (addrs ++ frameBytes t))) := by
  refine ⟨fun f h => h ▸ rfl, fun t h => ⟨fun hE => ?_, fun hT hE he => ?_, fun hT hE ho => ?_⟩⟩ <;> subst h
  · have htr : (T && !x) = false := by
      obtain h | h := hE
      · rw [h]; rfl
      · rw [hx.2 h, Bool.not_true, Bool.and_false]
    rw [htr]
    rfl
  all_goals
    have hx' : x = false := Bool.eq_false_iff.2 fun h => hE (hx.1 h)
    rw [hT, hx']
    simp only [endM68k, traceAfter, Bool.not_false, Bool.and_self, if_true]
  · rw [takeException_ok t 0x24 t.m.pc (isEven_eq_true he) (by decide)]
    rfl
  · rw [takeException_error t 0x24 t.m.pc (isEven_eq_false ho)]
    rfl

/-- A 68000 step with nothing pending is the end of the decoded instruction. -/
theorem stepM68k_decoded {s : State} {i : Instr} {len : Nat} (hf : s.m.faulted = none) (hn : s.m.nmi7Pending = false)
    (hi : s.host.ipl.val ≤ intMask s) (hs : s.m.stopped = false) (he : isEven s.m.pc = true)
    (hd : decodeWords (wordsM68k s) = .ok i len) :
    stepM68k s = endM68k (traceBit s && !untraced i s) (advanceM68k (latchPc0 s) len)
      (storesOf i (advanceM68k (latchPc0 s) len)) (exec i (advanceM68k (latchPc0 s) len)) := by
  rw [stepM68k_run hf (pendingLevel_none hi hn) hs]
  exact runM68k_ok (by rw [fetchM68k_even (isEven_eq_true he), hd]; rfl)

/-- Settles O54: `stepM68k_decoded` and `endM68k_runs`, for the step of the 68000 and for the block's. -/
theorem stepRunsM68k : Obligations.StepRunsM68k := fun s i len => by
  intro pc w u excluded counted odd runs hf hn hi hs he hd
  have hd' : decodeWords (wordsM68k s) = .ok i len := by rw [wordsM68k_eq]; exact hd
  refine ⟨?_, fun hsc ht => ?_⟩
  · rw [stepM68k_decoded hf hn hi hs he hd']
    exact endM68k_runs (untraced_iff i s) u _ _
  · rw [step_execute hsc, ht]
    change runs (stepM68k s.begun) _
    rw [stepM68k_decoded (s := s.begun) hf hn hi hs he hd']
    exact endM68k_runs (untraced_iff i s.begun) _ _ _

/-! ### Interrupts of the Z80 -/

/-- `push16` in one form: the high byte below SP, the low byte below it (43 R700). -/
theorem push16_eq (s : State) (v : Word) : push16 s v = { s with
    z := { s.z with sp := s.z.sp - 2 }
    bus := Bus.writeZ (Bus.writeZ s.bus (s.z.sp - 1) (v.extractLsb' 8 8)) (s.z.sp - 2) (v.extractLsb' 0 8) } := by
  have h2 : s.z.sp - 1 - 1 = s.z.sp - 2 := by rw [BitVec.sub_sub]; rfl
  rw [← h2]
  rfl

/-- Mode 2 in one form: the target is read from the bus after the push (60 R1272). -/
theorem acceptIm2_eq (s : State) : acceptIm2 s =
    (let b := Bus.writeZ (Bus.writeZ s.bus (s.z.sp - 1) (s.z.pc.extractLsb' 8 8)) (s.z.sp - 2) (s.z.pc.extractLsb' 0 8)
     let v : Word := s.z.i ++ s.host.z80IntData
     let target : Word := Bus.readZ b (v + 1) ++ Bus.readZ b v
     { s with z := { s.z with sp := s.z.sp - 2, pc := target, wz := target }, bus := b, cycles := 19 }) := by
  simp only [acceptIm2, push16_eq]
  rfl

/-- PC pushed (43 R700). -/
def pushedPc (s : State) : Bus :=
  Bus.writeZ (Bus.writeZ s.bus (s.z.sp - 1) (s.z.pc.extractLsb' 8 8)) (s.z.sp - 2) (s.z.pc.extractLsb' 0 8)

/-- The state after a maskable interrupt is accepted to `target` (60 R1272). -/
def afterInt (s : State) (target : Word) (n : Nat) : State := { s with
  z := { s.z with
    halted := false, r := bumpR s.z.r, iff1 := false, iff2 := false, sp := s.z.sp - 2, pc := target, wz := target }
  bus := pushedPc s, events := s.events ++ [.intAckZ80], cycles := n }

/-- A jump to `target` with PC pushed, as every acceptance ends (60 R1271, R1272). -/
theorem enterInt_took (s : State) (target : Word) (n : Nat) : (enterInt s target).took n = { s with
    z := { s.z with sp := s.z.sp - 2, pc := target, wz := target }, bus := pushedPc s, cycles := n } := by
  rw [enterInt, push16_eq]
  rfl

theorem enterInt_beginInt (s : State) (target : Word) (n : Nat) :
    (enterInt (beginInt s) target).took n = afterInt s target n := enterInt_took (beginInt s) target n

/-- The state in which a non-maskable interrupt pushes PC (60 R1271). -/
def beginNmi (s : State) : State :=
  s.setZ { s.z with nmiPending := false, halted := false, r := bumpR s.z.r, iff1 := false }

theorem acceptNmi_eq (s : State) : acceptNmi s = (enterInt (beginNmi s) 0x0066).took 11 := rfl

theorem stepZ80_nmi_eq {s : State} (hf : s.z.faulted = none) (hn : s.z.nmiPending = true) : stepZ80 s = .next { s with
    z := { s.z with
      nmiPending := false, halted := false, r := bumpR s.z.r, iff1 := false, sp := s.z.sp - 2, pc := 0x0066, wz := 0x0066 }
    bus := pushedPc s, cycles := 11 } := by
  rw [stepZ80_nmi hf hn, acceptNmi_eq, enterInt_took]
  rfl

theorem acceptInt_im0 {s : State} (him : s.z.im = .im0) : acceptInt s =
    if s.host.z80IntData &&& 0xC7 = 0xC7 then afterInt s ((s.host.z80IntData &&& 0x38).zeroExtend 16) 13
    else faultZ80 { s with events := s.events ++ [.intAckZ80] } (.im0DataNotRst s.host.z80IntData) := by
  rw [acceptInt, him, ← enterInt_beginInt]
  rfl

theorem acceptInt_im1 {s : State} (him : s.z.im = .im1) : acceptInt s = afterInt s 0x0038 13 := by
  rw [acceptInt, him, ← enterInt_beginInt]
  rfl

theorem acceptInt_im2 {s : State} (him : s.z.im = .im2) : acceptInt s =
    afterInt s (Bus.readZ (pushedPc s) ((s.z.i ++ s.host.z80IntData) + 1) ++
      Bus.readZ (pushedPc s) (s.z.i ++ s.host.z80IntData)) 19 := by
  rw [acceptInt, him]
  exact acceptIm2_eq (beginInt s)

/-- Settles O56: the acceptances and the idle step, in their order of priority. -/
theorem z80Interrupts : Obligations.Z80Interrupts := fun s hf => by
  refine ⟨stepZ80_nmi_eq hf, fun hn hw => ?_, fun hn hw hh => stepZ80_idle hf hn hw hh⟩
  rw [stepZ80_int hf hn hw]
  refine ⟨fun him hd => ?_, fun him hd => ?_, fun him => ?_, fun him => ?_⟩
  · rw [acceptInt_im0 him, if_pos hd]
    rfl
  · rw [acceptInt_im0 him, if_neg hd]
  · rw [acceptInt_im1 him]
    rfl
  · rw [acceptInt_im2 him]
    rfl

/-! ### Interrupts of the 68000 -/

theorem ofNat_four_mul_even (k : Nat) : (BitVec.ofNat 32 (4 * k)).getLsbD 0 = false := by
  rw [BitVec.getLsbD, Nat.testBit_zero, BitVec.toNat_ofNat]
  simp only [decide_eq_false_iff_not]
  omega

/-- The state of an acceptance before the cycle count (60 R1261). -/
def afterAccept (s : State) (level : Nat) : State :=
  let t := afterException s (0x64 + 4 * (level - 1)) s.m.pc
  { t with
    m := { t.m with
      sr := (t.m.sr &&& 0xF8FF) ||| BitVec.ofNat 16 (level * 0x100)
      nmi7Pending := if level = 7 then false else t.m.nmi7Pending }
    events := t.events ++ [.intAck68k level] }

theorem autovectorOffset_ok {level : Nat} (h1 : 1 ≤ level) (h7 : level ≤ 7) :
    autovectorOffset level = .ok (0x64 + 4 * (level - 1)) := by
  rw [autovectorOffset, if_neg (by omega)]

theorem acceptM68k_ok {s : State} {level : Nat} (h1 : 1 ≤ level) (h7 : level ≤ 7)
    (hs : isEven (supervisorSp s) = true) : acceptM68k s level = .ok (afterAccept s level) := by
  have ho : (BitVec.ofNat 32 (0x64 + 4 * (level - 1))).getLsbD 0 = false := by
    have : 0x64 + 4 * (level - 1) = 4 * (level + 24) := by omega
    rw [this]
    exact ofNat_four_mul_even _
  have hl : level % 8 * 256 = level * 0x100 := by omega
  rw [acceptM68k, autovectorOffset_ok h1 h7]
  simp only [bind, Except.bind, takeException_ok s _ s.m.pc (isEven_eq_true hs) ho, setIntMask, hl]
  split <;> simp only [afterAccept, *] <;> rfl

theorem acceptM68k_error {s : State} {level : Nat} (h1 : 1 ≤ level) (h7 : level ≤ 7)
    (hs : isEven (supervisorSp s) = false) :
    acceptM68k s level = .error (.misalignedAccess ((supervisorSp s - 4).extractLsb' 0 24)) := by
  rw [acceptM68k, autovectorOffset_ok h1 h7]
  simp only [bind, Except.bind, takeException_error s _ s.m.pc (isEven_eq_false hs)]
  rfl

theorem pendingLevel_ipl {s : State} (h : s.host.ipl.val > intMask s) : pendingLevel s = some s.host.ipl.val := by
  rw [pendingLevel, if_pos h]

theorem pendingLevel_latch {s : State} (h : s.host.ipl.val ≤ intMask s) (hn : s.m.nmi7Pending = true) :
    pendingLevel s = some 7 := by
  rw [pendingLevel, if_neg (Nat.not_lt.2 h), if_pos hn]

/-- A pending level is 1 to 7. -/
theorem pendingLevel_bounds {s : State} {level : Nat} (h : pendingLevel s = some level) : 1 ≤ level ∧ level ≤ 7 := by
  have hi := s.host.ipl.isLt
  rw [pendingLevel] at h
  split at h
  · cases h; omega
  · split at h
    · cases h; decide
    · cases h

theorem stepM68k_accepted {s : State} {level : Nat} (hf : s.m.faulted = none) (hp : pendingLevel s = some level)
    (hs : isEven (supervisorSp s) = true) : stepM68k s = .next (countCycles (afterAccept s level)) := by
  obtain ⟨h1, h7⟩ := pendingLevel_bounds hp
  rw [stepM68k_accept hf hp, acceptM68k_ok h1 h7 hs]
  rfl

theorem stepM68k_accept_odd {s : State} {level : Nat} (hf : s.m.faulted = none) (hp : pendingLevel s = some level)
    (hs : isEven (supervisorSp s) = false) : stepM68k s =
      .next (faultM68k s (.misalignedAccess ((supervisorSp s - 4).extractLsb' 0 24)) (frameBytes s)) := by
  obtain ⟨h1, h7⟩ := pendingLevel_bounds hp
  rw [stepM68k_accept hf hp, acceptM68k_error h1 h7 hs]
  rfl

/-- Settles O57: by the level that is pending. -/
theorem m68kInterrupts : Obligations.M68kInterrupts := fun s hf => by
  refine ⟨fun he => ⟨fun hi => ?_, fun hi hn => ?_⟩, fun ho hp => ?_, fun hi hn hs => ?_⟩
  · exact stepM68k_accepted hf (pendingLevel_ipl hi) he
  · exact stepM68k_accepted hf (pendingLevel_latch hi hn) he
  · by_cases hi : s.host.ipl.val > intMask s
    · exact stepM68k_accept_odd hf (pendingLevel_ipl hi) ho
    · exact stepM68k_accept_odd hf (pendingLevel_latch (Nat.not_lt.1 hi) (hp.resolve_left hi)) ho
  · exact stepM68k_idle hf (pendingLevel_none hi hn) hs

/-! ### The host -/

/-- A listed answer is found, and the other ports answer as before. -/
theorem portAnswer_setPort (ports : List Host.Cell) (p q : Nat) (v : Byte) :
    portAnswer (setPort ports p v) q = if q = p then some v else portAnswer ports q := by
  induction ports with
  | nil => simp [setPort, portAnswer]
  | cons c rest ih =>
    obtain ⟨k, x⟩ := c
    rw [setPort]
    split
    · rfl
    · split
      · next h =>
        subst h
        simp only [portAnswer]
        split <;> rfl
      · simp only [portAnswer, ih]
        split
        · next h => rw [if_neg (by omega)]
        · rfl

/-- Settles O58: each call and drive by the model's definition of it. -/
theorem hostTurns : Obligations.HostTurns := fun s t rest level b v d ds => by
  refine ⟨fun h => step_execute h, fun h => step_script h, ⟨rfl, rfl, fun _ => rfl⟩, ⟨rfl, rfl⟩, ?_, rfl, rfl, rfl,
    fun port q => ?_⟩
  · simp only [applyDrive]
    split
    · next h => simp [h]
    · next h => simp [h]
  · have := portAnswer_setPort s.host.ports port.toNat q.toNat v
    by_cases h : q = port
    · rw [if_pos h]
      rwa [if_pos (congrArg _ h)] at this
    · rw [if_neg h]
      rwa [if_neg fun e => h (BitVec.eq_of_toNat_eq e)] at this

end Sys2Proof.Machine
end

section
/-! PROOFS. The resets, the words of the decoders, the memory map and its accesses, operands, and exceptions (10_state.md
section 5; 30_encoding.md R254 to R284; 20_memory.md; 45 R901, R902; 60 R1250, R1260). -/

namespace Sys2Proof.Machine

open Sys2Proof.Claims

/-! ### Resets and words -/

theorem getElem_set_seven (a : Vector Long 8) (v : Long) (n : Fin 7) : (a.set 7 v)[n] = a[n] := by
  have hn := n.isLt
  simp only [Fin.getElem_fin]
  exact Vector.getElem_set_ne _ _ (by omega)

/-- The 68000's reset with an image: both longs of the vector table are at even addresses (70 R1301). -/
theorem resetM68k_ok {s : State} (h : s.bus.rom ≠ none) :
    resetM68k s = .ok (s.setM (M68k.afterReset ((Loc.mem 0).value s .l) ((Loc.mem 4).value s .l))) := by
  obtain ⟨im, hr⟩ := Option.ne_none_iff_exists'.1 h
  have h0 : memRead s 0 .l = .ok ((Loc.mem 0).value s .l) := memRead_ok s 0 .l (by decide)
  have h4 : memRead s 4 .l = .ok ((Loc.mem 4).value s .l) := memRead_ok s 4 .l (by decide)
  simp only [resetM68k, hr]
  change (do let ssp ← memRead s 0 .l; let pc ← memRead s 4 .l; pure (s.setM (M68k.afterReset ssp pc))) = _
  rw [h0, h4]
  rfl

theorem resetM68k_noImage {s : State} (h : s.bus.rom = none) : resetM68k s = .error .noImage := by
  rw [resetM68k, h]

/-- Settles O49: `resetM68k_ok` and `resetM68k_noImage`; the Z80's by its definition. -/
theorem resetCalls : Obligations.ResetCalls := fun s => by
  refine ⟨⟨Z80.afterReset, rfl, by decide⟩, fun h => ?_, fun h => ?_⟩
  · have hr := resetM68k_ok (s := s.begun) h
    refine ⟨M68k.afterReset ((Loc.mem 0).value s .l) ((Loc.mem 4).value s .l), ?_, fun n => ?_, fun n => ?_, ?_, rfl, rfl,
      rfl, rfl, rfl, rfl⟩
    · rw [runCall, hr]
      rfl
    · simp [M68k.afterReset]
    · exact (getElem_set_seven _ _ n).trans (by simp)
    · simp [M68k.afterReset]
  · have hr := resetM68k_noImage (s := s.begun) h
    refine ⟨unspecifiedM68k s.draws .noImage, rfl, ?_⟩
    rw [runCall, hr]
    rfl

/-- Settles O50: by evaluation of the reset state. -/
theorem resetState : Obligations.ResetState := by
  refine ⟨rfl, ?_, ⟨rfl, rfl, rfl, rfl⟩, ⟨rfl, rfl, rfl, rfl, rfl, rfl⟩, rfl, rfl, rfl, rfl, rfl⟩
  rw [runCall, resetM68k_ok (s := State.reset.begun) (by decide)]
  rfl

/-- Settles O48: by running the decoders on the words. -/
theorem decodeWords_of_spec : Obligations.DecodeWords := by
  unfold Obligations.DecodeWords
  decide

/-! ### The address map -/

theorem Bus.readM_rom (b : Bus) {a : BitVec 24} (h : a.toNat < 0x400000) : Bus.readM b a = Bus.readRom b a.toNat :=
  if_pos h

theorem Bus.readM_stub (b : Bus) {a : BitVec 24} (h : 0x400000 ≤ a.toNat) (h' : a.toNat < 0xA00000) : Bus.readM b a = 0 := by
  rw [Bus.readM, if_neg (by omega), if_pos h']

theorem Bus.readM_bridge (b : Bus) {a : BitVec 24} (h : 0xA00000 ≤ a.toNat) (h' : a.toNat < 0xA10000) :
    Bus.readM b a = Bus.readZ b (a.extractLsb' 0 16) := by
  rw [Bus.readM, if_neg (by omega), if_neg (by omega), if_pos h']

theorem Bus.readM_pads (b : Bus) {a : BitVec 24} (h : 0xA10000 ≤ a.toNat) (h' : a.toNat < 0xFF0000) :
    Bus.readM b a = if a.toNat ∈ b.pads then 0xFF else 0 := by
  rw [Bus.readM, if_neg (by omega), if_neg (by omega), if_neg (by omega), if_pos h']
  simp

theorem Bus.readM_wram (b : Bus) {a : BitVec 24} (h : 0xFF0000 ≤ a.toNat) :
    Bus.readM b a = Memory.read b.wram (a.toNat - 0xFF0000) := by
  have := a.isLt
  have hm : a.toNat % 0x10000 = a.toNat - 0xFF0000 := by omega
  rw [Bus.readM, if_neg (by omega), if_neg (by omega), if_neg (by omega), if_neg (by omega), hm]

theorem Bus.writeM_bridge (b : Bus) {a : BitVec 24} (v : Byte) (h : 0xA00000 ≤ a.toNat) (h' : a.toNat < 0xA10000) :
    Bus.writeM b a v = Bus.writeZ b (a.extractLsb' 0 16) v := by
  rw [Bus.writeM, if_neg (by omega), if_pos h']

theorem Bus.writeM_wram (b : Bus) {a : BitVec 24} (v : Byte) (h : 0xFF0000 ≤ a.toNat) :
    Bus.writeM b a v = { b with wram := Memory.write b.wram (a.toNat - 0xFF0000) v } := by
  have := a.isLt
  have hm : a.toNat % 0x10000 = a.toNat - 0xFF0000 := by omega
  rw [Bus.writeM, if_neg (by omega), if_neg (by omega), if_neg (by omega), hm]

theorem memoryMap : MemoryMap := fun b a k v => by
  have hrom (h : a.toNat < 0xA00000 ∨ (0xA02000 ≤ a.toNat ∧ a.toNat < 0xFF0000)) : Bus.writeM b a v = b :=
    Bus.writeM_of_not_ramAt b v ((ramAt_eq_false_iff a).2 h)
  refine ⟨fun h => ⟨hrom (by omega), Bus.readM_rom b h⟩, fun h h' => ⟨Bus.readM_stub b h h', hrom (by omega)⟩,
    fun h h' => ⟨Bus.readM_bridge b h h', Bus.writeM_bridge b v h h'⟩,
    fun h h' => ⟨Bus.readM_pads b h h', hrom (by omega)⟩, fun h => ⟨Bus.readM_wram b h, Bus.writeM_wram b v h⟩,
    fun h => ⟨Bus.readZ_of_ram b h, Bus.writeZ_of_ram b v h⟩, fun h => ⟨Bus.readZ_of_stub b h, Bus.writeZ_of_stub b v h⟩⟩

/-! ### Accesses -/

theorem reachable_of_isEven {a : Long} (sz : Size) (h : isEven a = true) : (Loc.mem a).reachable sz = true :=
  reachable_mem_of_byte_or_even (.inr h)

theorem unreachable_of_odd {a : Long} {sz : Size} (h : isEven a = false) (hs : sz ≠ .b) :
    (Loc.mem a).reachable sz = false := by
  cases sz with
  | b => exact absurd rfl hs
  | _ => simp only [Loc.reachable, isEven_eq_false h]; rfl

theorem hiByte_extractLsb' (v : Long) (lo : Nat) : hiByte (v.extractLsb' lo 16) = v.extractLsb' (lo + 8) 8 := by
  apply BitVec.eq_of_getLsbD_eq
  intro i hi
  simp only [hiByte, BitVec.getLsbD_extractLsb']
  simp [hi, show 8 + i < 16 by omega, Nat.add_assoc]

theorem loByte_extractLsb' (v : Long) (lo : Nat) : loByte (v.extractLsb' lo 16) = v.extractLsb' lo 8 := by
  apply BitVec.eq_of_getLsbD_eq
  intro i hi
  simp only [loByte, BitVec.getLsbD_extractLsb']
  simp [hi, show i < 16 by omega]

/-- A word's two bytes, most significant first (20_memory.md R161). -/
theorem writeMem_word (b : Bus) (addr v : Long) : writeMem b addr .w v =
    Bus.writeM (Bus.writeM b (busAddr addr + 0) (v.extractLsb' 8 8)) (busAddr addr + 1) (v.extractLsb' 0 8) := by
  rw [writeMem, writeM16, hiByte_extractLsb', loByte_extractLsb', show busAddr addr + 0 = busAddr addr from BitVec.add_zero _]

/-- A long's four bytes, most significant first (20_memory.md R162). -/
theorem writeMem_long (b : Bus) (addr v : Long) : writeMem b addr .l v =
    Bus.writeM (Bus.writeM (Bus.writeM (Bus.writeM b (busAddr addr + 0) (v.extractLsb' 24 8)) (busAddr addr + 1)
      (v.extractLsb' 16 8)) (busAddr addr + 2) (v.extractLsb' 8 8)) (busAddr addr + 3) (v.extractLsb' 0 8) := by
  have h3 : busAddr addr + 2 + 1 = busAddr addr + 3 := by rw [BitVec.add_assoc]; rfl
  rw [writeMem, writeM32, writeM16, writeM16, hiByte_extractLsb', loByte_extractLsb', hiByte_extractLsb', loByte_extractLsb',
    h3, show busAddr addr + 0 = busAddr addr from BitVec.add_zero _]

theorem accessWidths : AccessWidths := fun s addr v k w => by
  have h0 : busAddr addr + 0 = busAddr addr := BitVec.add_zero _
  refine ⟨⟨memRead_ok s addr .b rfl, ?_⟩, fun he => ⟨memRead_ok s addr .w (reachable_of_isEven _ he),
    memRead_ok s addr .l (reachable_of_isEven _ he), ?_, ?_⟩, fun ho sz hs => ?_, rfl, rfl⟩
  · rw [memWrite_byte]
    exact congrArg (fun a => Except.ok { s with bus := Bus.writeM s.bus a (v.extractLsb' 0 8) }) h0.symm
  · rw [memWrite_ok s addr .w v (reachable_of_isEven _ he), writeMem_word]
    rfl
  · rw [memWrite_ok s addr .l v (reachable_of_isEven _ he), writeMem_long]
    rfl
  · exact ⟨memRead_error s addr sz (unreachable_of_odd ho hs), memWrite_error s addr sz v (unreachable_of_odd ho hs)⟩

/-- Settles O40: the map and the widths. -/
theorem memoryAccess : Obligations.MemoryAccess := ⟨memoryMap, accessWidths⟩

/-! ### Stores and reads -/

theorem ramAt_iff (a : BitVec 24) : ramAt a = true ↔ (0xA00000 ≤ a.toNat ∧ a.toNat < 0xA02000 ∨ 0xFF0000 ≤ a.toNat) := by
  simp [ramAt]

/-- A byte the 68000 writes, read by the Z80: the bridge alone reaches its RAM (20_memory.md R157). -/
theorem readZ_writeM (b : Bus) (a : BitVec 24) (k : Word) (v : Byte) (h : Bus.wf b = true) :
    Bus.readZ (Bus.writeM b a v) k = if a.toNat = 0xA00000 + k.toNat ∧ k.toNat < 0x2000 then v else Bus.readZ b k := by
  have hk := k.isLt
  by_cases ha : 0xA00000 ≤ a.toNat ∧ a.toNat < 0xA10000
  · have hx := bridge_toNat a
    have heq : (k = a.extractLsb' 0 16 ∧ (a.extractLsb' 0 16).toNat < 0x2000) ↔
        (a.toNat = 0xA00000 + k.toNat ∧ k.toNat < 0x2000) := by
      rw [← BitVec.toNat_inj, hx]
      omega
    rw [Bus.writeM_bridge b v ha.1 ha.2, Bus.readZ_writeZ b _ k v (Bus.wf_zram h)]
    simp only [heq]
  · rw [if_neg (by omega)]
    by_cases hw : 0xFF0000 ≤ a.toNat
    · rw [Bus.writeM_wram b v hw]
      rfl
    · rw [Bus.writeM_of_not_ramAt b v ((ramAt_eq_false_iff a).2 (by omega))]

/-- A word the 68000 writes through the bridge: the Z80 reads its bytes the other way round (20_memory.md R166). -/
theorem readZ16_writeMem_bridge {s : State} (h : Bus.wf s.bus = true) {addr : Long} (w : Word) {k : Word}
    (hk : k.toNat + 1 < 0x2000) (ha : addr.toNat % 2 ^ 24 = 0xA00000 + k.toNat) :
    readZ16 (s.setBus (writeMem s.bus addr .w (w.zeroExtend 32))) k =
      (w.extractLsb' 0 8 : Byte) ++ (w.extractLsb' 8 8 : Byte) := by
  have hw : (w.zeroExtend 32).extractLsb' 0 16 = w := by
    apply BitVec.eq_of_getLsbD_eq
    intro i hi
    simp [hi, show i < 32 by omega]
  have h0 : (busAddr addr).toNat = 0xA00000 + k.toNat := (busAddr_toNat addr).trans ha
  have h1 : (busAddr addr + 1).toNat = 0xA00000 + k.toNat + 1 := by
    rw [BitVec.toNat_add, h0, Nat.mod_eq_of_lt (show _ < 2 ^ 24 by have : (1 : BitVec 24).toNat = 1 := rfl; omega)]
    rfl
  have hk1 : (k + 1).toNat = k.toNat + 1 := by
    rw [BitVec.toNat_add, Nat.mod_eq_of_lt (show _ < 2 ^ 16 by have : (1 : Word).toNat = 1 := rfl; omega)]
    rfl
  have hf := Bus.wf_writeM s.bus (busAddr addr) (hiByte w) h
  simp only [readZ16, pairOf, readZ8, State.setBus_bus, writeMem, writeM16, hw, readZ_writeM _ _ _ _ hf,
    readZ_writeM _ _ _ _ h, h0, h1, hk1]
  rw [if_pos (by omega), if_neg (by omega), if_pos ⟨trivial, by omega⟩]
  rfl

theorem ramReadsBack : RamReadsBack := fun b v h => by
  refine ⟨fun a k => ?_, fun a k => Bus.readZ_writeZ b a k v (Bus.wf_zram h), fun a k => readZ_writeM b a k v h,
    fun s addr w k hb hk ha => ?_⟩
  · rw [Bus.readM_writeM b a k v h]
    simp only [ramAt_iff]
  · subst hb
    exact readZ16_writeMem_bridge h w hk ha

theorem storeFrame : StoreFrame := fun b addr v sz k _ hk =>
  readM_writeMem_of_notMem b v fun hm => by
    obtain ⟨j, hj, e⟩ := mem_byteRun.1 hm
    exact hk j hj e.symm

/-- Settles O41: what is read back, and the frame of a store. -/
theorem storesAndReads : Obligations.StoresAndReads := ⟨ramReadsBack, storeFrame⟩

end Sys2Proof.Machine
end

section
/-! PROOFS. Values at a size, the operand forms, and the exceptions (45 R900 to R902; 10_state.md R66 to R70; 60 R1250,
R1260). -/

namespace Sys2Proof.Machine

open Sys2Proof.Claims

/-! ### Values at a size -/

theorem sizeMask_getLsbD (sz : Size) (i : Nat) : (sizeMask sz).getLsbD i = decide (i < 8 * sz.bytes) := by
  by_cases hi : i < 32
  · cases sz <;> revert hi <;> revert i <;> decide
  · rw [BitVec.getLsbD_of_ge _ _ (by omega)]
    have := bytes_le_four sz
    simp
    omega

theorem cut_getLsbD (sz : Size) (v : Long) (i : Nat) :
    (cut sz v).getLsbD i = (v.getLsbD i && decide (i < 8 * sz.bytes)) := by
  rw [cut, BitVec.getLsbD_and, sizeMask_getLsbD]

theorem insertLow_getLsbD (sz : Size) (old v : Long) {i : Nat} (hi : i < 32) :
    (insertLow sz old v).getLsbD i = if i < 8 * sz.bytes then v.getLsbD i else old.getLsbD i := by
  rw [insertLow, BitVec.getLsbD_or, BitVec.getLsbD_and, BitVec.getLsbD_not, sizeMask_getLsbD, cut_getLsbD]
  by_cases h : i < 8 * sz.bytes <;> simp [h, hi]

theorem cut_toNat (sz : Size) (v : Long) : (cut sz v).toNat = low sz v := by
  have hm : (sizeMask sz).toNat = 2 ^ (8 * sz.bytes) - 1 := by cases sz <;> rfl
  rw [cut, BitVec.toNat_and, hm, Nat.and_two_pow_sub_one_eq_mod, low]

theorem cut_eq_ofNat (sz : Size) (v : Long) : cut sz v = BitVec.ofNat 32 (low sz v) := by
  rw [← cut_toNat, BitVec.ofNat_toNat, BitVec.setWidth_eq]

theorem signBit_eq_msb (sz : Size) (v : Long) : signBit sz v = msb sz v := by
  cases sz <;> rfl

theorem sextL_eq_wide (sz : Size) (v : Long) : sextL sz v = wide sz v := by
  cases sz with
  | l =>
    have : v.extractLsb' 0 32 = v := BitVec.extractLsb'_eq_self
    rw [sextL, wide]
    exact (BitVec.signExtend_eq _).symm.trans (congrArg _ this.symm)
  | _ => rfl

theorem insertLow_byte (old v : Long) :
    insertLow .b old v = (old.extractLsb' 8 24 : BitVec 24) ++ (v.extractLsb' 0 8 : Byte) := by
  apply BitVec.eq_of_getLsbD_eq
  intro i hi
  rw [insertLow_getLsbD _ _ _ hi, BitVec.getLsbD_append, BitVec.getLsbD_extractLsb', BitVec.getLsbD_extractLsb']
  by_cases h : i < 8
  · simp [h, Size.bytes]
  · simp [h, Size.bytes, show i - 8 < 24 by omega, show 8 + (i - 8) = i by omega]

theorem insertLow_word (old v : Long) :
    insertLow .w old v = (old.extractLsb' 16 16 : Word) ++ (v.extractLsb' 0 16 : Word) := by
  apply BitVec.eq_of_getLsbD_eq
  intro i hi
  rw [insertLow_getLsbD _ _ _ hi, BitVec.getLsbD_append, BitVec.getLsbD_extractLsb', BitVec.getLsbD_extractLsb']
  by_cases h : i < 16
  · simp [h, Size.bytes]
  · simp [h, Size.bytes, show i - 16 < 16 by omega, show 16 + (i - 16) = i by omega]

@[simp] theorem insertLow_long (old v : Long) : insertLow .l old v = v := by
  apply BitVec.eq_of_getLsbD_eq
  intro i hi
  rw [insertLow_getLsbD _ _ _ hi, if_pos (by simpa [Size.bytes] using hi)]

/-! ### Operand forms -/

theorem eaStep_eq (sz : Size) (n : Fin 8) :
    eaStep sz n = if sz = .b ∧ n.val = 7 then 2 else BitVec.ofNat 32 sz.bytes := by
  cases sz <;> revert n <;> decide

theorem resolveTable : ResolveTable := fun s sz pw n w d x v => by
  intro an inc xr idx moved
  have hinc : eaStep sz n = inc := eaStep_eq sz n
  have hidx : indexValue s x = idx := by
    simp only [idx, indexValue, sextL_eq_wide]
    rfl
  refine ⟨rfl, rfl, rfl, ?_, ?_, rfl, ?_, rfl, rfl, rfl, ?_, rfl⟩
  · rw [← hinc]
    rfl
  · rw [← hinc]
    rfl
  · rw [← hidx]
    rfl
  · rw [← hidx]
    rfl

theorem operandAccess : OperandAccess := fun s n v => by
  refine ⟨fun sz => ⟨congrArg _ (cut_eq_ofNat sz _), congrArg _ (cut_eq_ofNat sz _), congrArg _ (cut_eq_ofNat sz _),
    fun _ => ⟨rfl, rfl⟩⟩, ?_, ?_, ?_, rfl, rfl⟩
  · rw [← insertLow_byte]
    rfl
  · rw [← insertLow_word]
    rfl
  · simp only [writeLoc, setDsz, insertLow_long]
    rfl

/-- Settles O42: the table of the modes, and the accesses of the locations. -/
theorem operandForms : Obligations.OperandForms := ⟨resolveTable, operandAccess⟩

/-! ### Exceptions -/

theorem ofNat_even_of_mod_four {off : Nat} (h : off % 4 = 0) : (BitVec.ofNat 32 off).getLsbD 0 = false := by
  have : off = 4 * (off / 4) := by omega
  rw [this]
  exact ofNat_four_mul_even _

/-- Of the bits of SR an exception writes S and T (60 R1260). -/
theorem exception_sr_getLsbD (sr : Word) {k : Nat} (h13 : k ≠ 13) (h15 : k ≠ 15) :
    ((sr ||| 0x2000) &&& 0x7FFF : Word).getLsbD k = sr.getLsbD k := by
  rw [BitVec.getLsbD_and, BitVec.getLsbD_or]
  have hbits : ∀ j < 16, j ≠ 13 → j ≠ 15 → (0x2000 : Word).getLsbD j = false ∧ (0x7FFF : Word).getLsbD j = true := by
    decide
  by_cases hk : k < 16
  · obtain ⟨h1, h2⟩ := hbits k hk h13 h15
    rw [h1, h2, Bool.or_false, Bool.and_true]
  · rw [BitVec.getLsbD_of_ge sr k (by omega), BitVec.getLsbD_of_ge (0x7FFF : Word) k (by omega), Bool.and_false]

theorem exception_sr_bit15 (sr : Word) : ((sr ||| 0x2000) &&& 0x7FFF : Word).getLsbD 15 = false := by
  rw [BitVec.getLsbD_and]
  exact Bool.and_false _

theorem exceptionEntry : ExceptionEntry := fun s off pc hoff => by
  have ho := ofNat_even_of_mod_four hoff
  refine ⟨fun he => ⟨takeException_ok s off pc (isEven_eq_true he) ho, ⟨rfl, fun n => getElem_set_seven _ _ n, ?_, rfl⟩,
    ⟨exception_sr_bit13 _, exception_sr_bit15 _, fun k h13 h15 => exception_sr_getLsbD _ h13 h15⟩, rfl, ⟨rfl, rfl⟩, rfl, rfl,
    rfl⟩, fun ho' => takeException_error s off pc (isEven_eq_false ho')⟩
  simp [afterException]

theorem vectorOffsets : VectorOffsets := by
  refine ⟨fun l h1 h7 => autovectorOffset_ok h1 h7, fun l h => if_pos h, fun k h1 h15 => if_neg (by omega), fun k h => if_pos h,
    fun s l => ⟨fun h1 h7 => ?_, fun h => ?_⟩⟩
  · rw [getInterruptAutovector, autovectorOffset_ok h1 h7]
    rfl
  · rw [getInterruptAutovector, autovectorOffset, if_pos h]
    rfl

/-- A write of SR that keeps S writes SR alone (10_state.md R70). -/
theorem writeSR_of_same {s : State} {v : Word} (h : (v &&& srMask).getLsbD 13 = supervisor s) :
    writeSR s v = setSr s (v &&& srMask) := by
  cases hs : supervisor s with
  | true =>
    rw [hs] at h
    simp only [writeSR, h, if_true, enterSupervisorMode_of_supervisor hs]
  | false =>
    rw [hs] at h
    simp only [writeSR, h, Bool.false_eq_true, if_false, enterUserMode_of_user hs]

/-- A write of SR that changes S exchanges the stacks (10_state.md R69, R70). -/
theorem writeSR_of_change {s : State} {v : Word} (h : (v &&& srMask).getLsbD 13 ≠ supervisor s) :
    writeSR s v = setSr (swapStacks s) (v &&& srMask) := by
  cases hs : supervisor s with
  | true =>
    rw [hs, ne_eq, Bool.not_eq_true] at h
    simp only [writeSR, h, Bool.false_eq_true, if_false, enterUserMode_of_supervisor hs]
    rfl
  | false =>
    rw [hs, ne_eq, Bool.not_eq_false] at h
    simp only [writeSR, h, if_true, enterSupervisorMode_of_user hs]
    rfl

theorem statusWrites : StatusWrites := fun s v => by
  refine ⟨?_, fun hu => ?_, fun hs => ⟨enterSupervisorMode_of_supervisor hs, ?_⟩⟩
  · dsimp only
    split
    · next h => exact writeSR_of_same h
    · next h => exact writeSR_of_change h
  · have hu' : supervisor s = false := hu
    have hb : (s.m.sr ||| 0x2000#16) &&& 0xDFFF#16 = s.m.sr := by
      rw [BitVec.and_or_distrib_right, show 0xDFFF#16 = ~~~ 0x2000#16 by decide, and_bit13 _ hu]
      simp
    rw [enterSupervisorMode_of_user hu', enterUserMode_of_supervisor]
    · simp [swapStacks, setSr, State.setM, hb]
    · rw [supervisor]
      simp [setSr]
  · rw [enterSupervisorMode_of_supervisor hs, enterUserMode_of_supervisor hs]
    simp [setSr, swapStacks]

/-- Settles O44: the entry, the offsets, the writes of SR. -/
theorem exceptions : Obligations.Exceptions := ⟨exceptionEntry, vectorOffsets, statusWrites⟩

end Sys2Proof.Machine
end

section
/-! PROOFS. The Z80's arithmetic and logic (40_z80_alu.md): the primitives with every flag, then every form of each
operation, an indexed form being the plain one with WZ at its address. -/

namespace Sys2Proof.Machine

open Sys2Proof.Claims

/-! ### Flags -/

theorem flags8_flagsZ (s z y h x pv n c : Bool) : Flags8 (flagsZ s z y h x pv n c) s z y h x pv n c :=
  ⟨flagsZ_bit7 .., flagsZ_bit6 .., flagsZ_bit5 .., flagsZ_bit4 .., flagsZ_bit3 .., flagsZ_bit2 .., flagsZ_bit1 ..,
    flagsZ_bit0 ..⟩

theorem parity_eq_evenOnes (v : Byte) : parity v = evenOnes v := by
  revert v; decide

/-- F is the low byte of AF (10_state.md R60). -/
theorem getF_getLsbD (s : State) {k : Nat} (hk : k < 8) : (getF s.z).getLsbD k = flag s k := by
  simp [getF, loByte, flag, hk]

theorem fC_getF (s : State) : fC (getF s.z) = flag s 0 := getF_getLsbD s (by decide)

theorem fS_getF (s : State) : fS (getF s.z) = flag s 7 := getF_getLsbD s (by decide)

theorem fZ_getF (s : State) : fZ (getF s.z) = flag s 6 := getF_getLsbD s (by decide)

theorem fH_getF (s : State) : fH (getF s.z) = flag s 4 := getF_getLsbD s (by decide)

theorem fPV_getF (s : State) : fPV (getF s.z) = flag s 2 := getF_getLsbD s (by decide)

theorem fN_getF (s : State) : fN (getF s.z) = flag s 1 := getF_getLsbD s (by decide)

/-- The half carry and the like: one bit of the operands and the result. -/
theorem xor_xor_getLsbD {w : Nat} (a b r : BitVec w) (k : Nat) :
    (a ^^^ b ^^^ r).getLsbD k = (a.getLsbD k ^^ b.getLsbD k ^^ r.getLsbD k) := by
  rw [BitVec.getLsbD_xor, BitVec.getLsbD_xor]

/-- The overflow of a sum: operands of one sign, the result of the other (40 R401). -/
theorem sum_overflow {w : Nat} (a b r : BitVec w) {k : Nat} (hk : k < w) :
    (~~~ (a ^^^ b) &&& (a ^^^ r)).getLsbD k = (a.getLsbD k == b.getLsbD k && a.getLsbD k != r.getLsbD k) := by
  simp only [BitVec.getLsbD_and, BitVec.getLsbD_not, BitVec.getLsbD_xor, hk, decide_true, Bool.true_and]
  cases a.getLsbD k <;> cases b.getLsbD k <;> cases r.getLsbD k <;> rfl

/-- The overflow of a difference (40 R402). -/
theorem difference_overflow {w : Nat} (a b r : BitVec w) (k : Nat) :
    ((a ^^^ b) &&& (a ^^^ r)).getLsbD k = (a.getLsbD k != b.getLsbD k && a.getLsbD k != r.getLsbD k) := by
  simp only [BitVec.getLsbD_and, BitVec.getLsbD_xor]

/-- A difference with borrow in, as an integer. -/
theorem sub_sub_eq_ofInt {w : Nat} (a b : BitVec w) (c : Bool) :
    a - b - BitVec.ofNat w c.toNat = BitVec.ofInt w ((a.toNat : Int) - b.toNat - c.toNat) := by
  simp only [Int.sub_eq_add_neg, BitVec.ofInt_add, BitVec.ofInt_neg, BitVec.ofInt_natCast, BitVec.ofNat_toNat,
    BitVec.setWidth_eq, BitVec.sub_eq_add_neg]

/-- The borrow of a difference. -/
theorem borrow_eq (a b : Nat) (c : Bool) : decide (a < b + c.toNat) = decide ((a : Int) - b - c.toNat < 0) :=
  decide_eq_decide.2 (by omega)

/-! ### The primitives -/

theorem add8_flags (a b : Byte) (cin : Bool) :
    let r := BitVec.ofNat 8 (a.toNat + b.toNat + cin.toNat)
    Flags8 (add8 a b cin).2 (r.getLsbD 7) (r == 0) (r.getLsbD 5) (a.getLsbD 4 ^^ b.getLsbD 4 ^^ r.getLsbD 4) (r.getLsbD 3)
      (a.getLsbD 7 == b.getLsbD 7 && a.getLsbD 7 != r.getLsbD 7) false (decide (a.toNat + b.toNat + cin.toNat > 0xFF)) := by
  intro r
  rw [← xor_xor_getLsbD, ← sum_overflow a b r (by decide)]
  exact flags8_flagsZ ..

theorem sub8_fst (a b : Byte) (cin : Bool) : (sub8 a b cin).1 = BitVec.ofInt 8 ((a.toNat : Int) - b.toNat - cin.toNat) :=
  sub_sub_eq_ofInt a b cin

theorem sub8_flags (a b : Byte) (cin : Bool) :
    let r := BitVec.ofInt 8 ((a.toNat : Int) - b.toNat - cin.toNat)
    SubFlags (sub8 a b cin).2 a b r cin r := by
  intro r
  have hr : r = a - b - BitVec.ofNat 8 cin.toNat := (sub_sub_eq_ofInt a b cin).symm
  rw [SubFlags, ← xor_xor_getLsbD, ← difference_overflow, ← borrow_eq, hr]
  exact flags8_flagsZ ..

theorem cp8_flags (a b : Byte) : SubFlags (cp8 a b) a b (BitVec.ofInt 8 ((a.toNat : Int) - b.toNat)) false b := by
  have h := sub8_flags a b false
  simp only [Bool.toNat_false, Int.natCast_zero, Int.sub_zero] at h
  obtain ⟨hs, hz, -, hh, -, hv, -, hc⟩ := h
  simp only [SubFlags, Flags8, cp8, flagsZ_bit7, flagsZ_bit6, flagsZ_bit5, flagsZ_bit4, flagsZ_bit3, flagsZ_bit2,
    flagsZ_bit1, flagsZ_bit0, true_and]
  exact ⟨hs, hz, hh, hv, hc⟩

theorem flagsR_flags (r : Byte) (h pv n c : Bool) :
    Flags8 (flagsR r h pv n c) (r.getLsbD 7) (r == 0) (r.getLsbD 5) h (r.getLsbD 3) pv n c := flags8_flagsZ ..

theorem logicF_flags (r : Byte) (h : Bool) :
    Flags8 (logicF r h) (r.getLsbD 7) (r == 0) (r.getLsbD 5) h (r.getLsbD 3) (evenOnes r) false false := by
  rw [← parity_eq_evenOnes]
  exact flagsR_flags ..

theorem inc8_flags (s : State) (v : Byte) : IncFlags s (inc8 v (getF s.z)).2 v := by
  have h : decide (v.toNat % 16 = 15) = (v &&& 0xF == 0xF) := by
    revert v; decide
  rw [IncFlags, h, ← fC_getF]
  exact flagsR_flags ..

theorem dec8_flags (s : State) (v : Byte) : DecFlags s (dec8 v (getF s.z)).2 v := by
  have h : decide (v.toNat % 16 = 0) = (v &&& 0xF == 0) := by
    revert v; decide
  rw [DecFlags, h, ← fC_getF]
  exact flagsR_flags ..

/-! ### One form of each operation -/

variable {s : State} {i : Instr} {v : Byte} {wz : Word} {t : Nat}

theorem addsToA_of_exec {cin : Bool}
    (h : exec i s = .next ((intoA (s.setZ (setWZ s.z wz)) (add8 (regA s) v cin)).took t)) : AddsToA s i v cin wz t :=
  ⟨_, h, add8_flags (regA s) v cin⟩

theorem addsToA_carry_of_exec
    (h : exec i s = .next ((intoA (s.setZ (setWZ s.z wz)) (add8 (regA s) v (fC (getF s.z)))).took t)) :
    AddsToA s i v (flag s 0) wz t :=
  addsToA_of_exec (by rw [h, fC_getF])

theorem subsToA_of_exec {a : Byte} {cin : Bool}
    (h : exec i s = .next ((intoA (s.setZ (setWZ s.z wz)) (sub8 a v cin)).took t)) : SubsToA s i a v cin wz t := by
  refine ⟨(sub8 a v cin).2, ?_, sub8_flags a v cin⟩
  rw [Z80Next, h, ← sub8_fst]
  rfl

theorem subsToA_carry_of_exec {a : Byte}
    (h : exec i s = .next ((intoA (s.setZ (setWZ s.z wz)) (sub8 a v (fC (getF s.z)))).took t)) :
    SubsToA s i a v (flag s 0) wz t :=
  subsToA_of_exec (by rw [h, fC_getF])

theorem compares8_of_exec (h : exec i s = .next ((aluCp v (s.setZ (setWZ s.z wz))).took t)) : Compares8 s i v wz t :=
  ⟨_, h, cp8_flags (regA s) v⟩

theorem logicToA_of_exec {r : Byte} {hf : Bool}
    (h : exec i s = .next ((intoA (s.setZ (setWZ s.z wz)) (r, logicF r hf)).took t)) : LogicToA s i r hf wz t :=
  ⟨_, h, logicF_flags r hf⟩

/-! ### The obligations -/

/-- Settles O2: each form is `add8` of A and its operand. -/
theorem z80AddAdc : Obligations.Z80AddAdc := fun _ _ _ _ =>
  ⟨⟨addsToA_of_exec rfl, addsToA_of_exec rfl, addsToA_of_exec rfl, addsToA_of_exec rfl, addsToA_of_exec rfl⟩,
    addsToA_carry_of_exec rfl, addsToA_carry_of_exec rfl, addsToA_carry_of_exec rfl, addsToA_carry_of_exec rfl,
    addsToA_carry_of_exec rfl⟩

/-- Settles O3: each form is `sub8` of A and its operand, NEG of 0 and A. -/
theorem z80SubSbcNeg : Obligations.Z80SubSbcNeg := fun _ _ _ _ =>
  ⟨⟨subsToA_of_exec rfl, subsToA_of_exec rfl, subsToA_of_exec rfl, subsToA_of_exec rfl, subsToA_of_exec rfl⟩,
    ⟨subsToA_carry_of_exec rfl, subsToA_carry_of_exec rfl, subsToA_carry_of_exec rfl, subsToA_carry_of_exec rfl,
      subsToA_carry_of_exec rfl⟩, subsToA_of_exec rfl⟩

/-- Settles O4: each form is `cp8` of A and its operand. -/
theorem z80Compare : Obligations.Z80Compare := fun _ _ _ _ =>
  ⟨compares8_of_exec rfl, compares8_of_exec rfl, compares8_of_exec rfl, compares8_of_exec rfl, compares8_of_exec rfl⟩

/-- Settles O5: each form is the operation of A and its operand, with the flags of `logicF`. -/
theorem z80Logic : Obligations.Z80Logic := fun _ _ _ _ =>
  ⟨⟨logicToA_of_exec rfl, logicToA_of_exec rfl, logicToA_of_exec rfl, logicToA_of_exec rfl, logicToA_of_exec rfl⟩,
    ⟨logicToA_of_exec rfl, logicToA_of_exec rfl, logicToA_of_exec rfl, logicToA_of_exec rfl, logicToA_of_exec rfl⟩,
    logicToA_of_exec rfl, logicToA_of_exec rfl, logicToA_of_exec rfl, logicToA_of_exec rfl, logicToA_of_exec rfl⟩

/-- Settles O6: each form is `inc8` or `dec8` of its operand. -/
theorem z80IncDec : Obligations.Z80IncDec := fun s _ _ =>
  ⟨⟨⟨_, rfl, inc8_flags s _⟩, ⟨_, rfl, inc8_flags s _⟩, ⟨_, rfl, inc8_flags s _⟩, ⟨_, rfl, inc8_flags s _⟩⟩,
    ⟨_, rfl, dec8_flags s _⟩, ⟨_, rfl, dec8_flags s _⟩, ⟨_, rfl, dec8_flags s _⟩, ⟨_, rfl, dec8_flags s _⟩⟩

end Sys2Proof.Machine
end

section
/-! PROOFS. The Z80's adjustments, 16-bit arithmetic, rotates, bits and digits (40_z80_alu.md sections 2 and 3,
41_z80_rotate_bit.md). -/

namespace Sys2Proof.Machine

open Sys2Proof.Claims

/-! ### Adjustments -/

theorem low_digit_toNat (a : Byte) : (a &&& 0xF).toNat = a.toNat % 16 := by
  revert a; decide

theorem flagsKeep_flags (s : State) (r : Byte) (h n c : Bool) :
    Flags8 (flagsKeep (getF s.z) r h n c) (flag s 7) (flag s 6) (r.getLsbD 5) h (r.getLsbD 3) (flag s 2) n c := by
  rw [← fS_getF, ← fZ_getF, ← fPV_getF]
  exact flags8_flagsZ ..

/-- Settles O7: DAA is `daa8` of A and F, the others are `flagsKeep`. -/
theorem z80Adjusts : Obligations.Z80Adjusts := by
  intro s a corr r
  refine ⟨?_, ⟨_, rfl, ?_⟩, ⟨_, rfl, flagsKeep_flags ..⟩, ⟨flagsKeep (getF s.z) a (flag s 0) false (!flag s 0), ?_, ?_⟩⟩
  · refine ⟨flagsR r (a.getLsbD 4 ^^ r.getLsbD 4) (evenOnes r) (flag s 1) (flag s 0 || decide (a.toNat > 0x99)), ?_,
      flagsR_flags ..⟩
    have h : daa8 a (getF s.z) = (r, flagsR r (a.getLsbD 4 ^^ r.getLsbD 4) (evenOnes r) (flag s 1)
        (flag s 0 || decide (a.toNat > 0x99))) := by
      simp only [daa8, fH_getF, fC_getF, fN_getF, low_digit_toNat, parity_eq_evenOnes, BitVec.getLsbD_xor]
      rfl
    calc exec .daa s = zDone 4 (intoA s (daa8 a (getF s.z))) := rfl
      _ = _ := by rw [h]; rfl
  · have h := flagsKeep_flags s (~~~ a) true true (fC (getF s.z))
    rw [BitVec.getLsbD_not, BitVec.getLsbD_not] at h
    rw [← fC_getF]
    exact h
  · rw [← fC_getF]
    rfl
  · exact flagsKeep_flags ..

/-! ### 16-bit arithmetic -/

theorem add16_flags (s : State) (a b : Word) : Add16Flags s (add16 a b (getF s.z)).2 a b (a + b) := by
  rw [Add16Flags, ← xor_xor_getLsbD, ← fS_getF, ← fZ_getF, ← fPV_getF]
  exact flags8_flagsZ ..

theorem adc16_flags (a b : Word) (c : Bool) :
    let r := BitVec.ofNat 16 (a.toNat + b.toNat + c.toNat)
    Flags8 (adc16 a b c).2 (r.getLsbD 15) (r == 0) (r.getLsbD 13) (a.getLsbD 12 ^^ b.getLsbD 12 ^^ r.getLsbD 12)
      (r.getLsbD 11) (a.getLsbD 15 == b.getLsbD 15 && a.getLsbD 15 != r.getLsbD 15) false
      (decide (a.toNat + b.toNat + c.toNat > 0xFFFF)) := by
  intro r
  rw [← xor_xor_getLsbD, ← sum_overflow a b r (by decide)]
  exact flags8_flagsZ ..

theorem sbc16_flags (a b : Word) (c : Bool) :
    let r := BitVec.ofInt 16 ((a.toNat : Int) - b.toNat - c.toNat)
    Flags8 (sbc16 a b c).2 (r.getLsbD 15) (r == 0) (r.getLsbD 13) (a.getLsbD 12 ^^ b.getLsbD 12 ^^ r.getLsbD 12)
      (r.getLsbD 11) (a.getLsbD 15 != b.getLsbD 15 && a.getLsbD 15 != r.getLsbD 15) true
      (decide ((a.toNat : Int) - b.toNat - c.toNat < 0)) := by
  intro r
  have hr : r = a - b - BitVec.ofNat 16 c.toNat := (sub_sub_eq_ofInt a b c).symm
  rw [← xor_xor_getLsbD, ← difference_overflow, ← borrow_eq, hr]
  exact flags8_flagsZ ..

theorem z80Arith16 : Claims.Z80Arith16 := by
  intro s p q a b c
  have hb : b = getRp s.z p := by cases p <;> rfl
  have hc : c = fC (getF s.z) := (fC_getF s).symm
  refine ⟨⟨_, ?_, add16_flags s a b⟩, ⟨_, ?_, adc16_flags a b c⟩, ⟨_, ?_, sbc16_flags a b c⟩, ?_, ?_⟩
  · rw [hb]
    rfl
  · rw [hb, hc]
    rfl
  · rw [hb, hc, ← sub_sub_eq_ofInt]
    rfl
  · intro a b
    have hb : b = getPp s.z .ix q := by cases q <;> rfl
    refine ⟨_, ?_, add16_flags s a b⟩
    rw [hb]
    rfl
  · intro a b
    have hb : b = getPp s.z .iy q := by cases q <;> rfl
    refine ⟨_, ?_, add16_flags s a b⟩
    rw [hb]
    rfl

/-- Settles O8: the sums and differences by `z80Arith16`; the increments and decrements are the model's. -/
theorem z80WordArith : Obligations.Z80WordArith :=
  ⟨z80Arith16, fun _ => ⟨⟨rfl, rfl, rfl, rfl, rfl, rfl⟩, rfl, rfl, rfl, rfl, rfl, rfl⟩⟩

/-! ### Rotates and shifts -/

theorem shift8_eq_rotated (k : Shift8) (v : Byte) (c : Bool) : shift8 k v c = rotated k v c := by
  revert v c
  cases k <;> decide

theorem shiftF_flags (r : Byte) (c : Bool) : RotFlags (shiftF r c) r c := by
  rw [RotFlags, ← parity_eq_evenOnes]
  exact flagsR_flags ..

/-- The rotated operand of the model in the words of the statement. -/
theorem shift8_getF (s : State) (k : Shift8) (v : Byte) : shift8 k v (fC (getF s.z)) = rotated k v (flag s 0) := by
  rw [shift8_eq_rotated, fC_getF]

theorem rotatesA_of_exec {s : State} {i : Instr} {k : Shift8} (h : exec i s = zDone 4 (rotateA k s)) : RotatesA s i k := by
  refine ⟨flagsKeep (getF s.z) (rotated k (regA s) (flag s 0)).1 false false (rotated k (regA s) (flag s 0)).2, ?_,
    flagsKeep_flags ..⟩
  rw [Z80Next, h, ← shift8_getF]
  rfl

/-- F written after a register, or before it: the register A is the other half of AF. -/
theorem setF_setR (z : Z80) (r : Reg8) (v f : Byte) : setF (setR z r v) f = setR (setF z f) r v := by
  cases r with
  | a => simp only [setF, setR, withHi, withLo, hiByte_pairOf, loByte_pairOf]
  | b | c | d | e | h | l => rfl

theorem rotatesM_of_exec {s : State} {m : Loc8 → Instr} {ix iy : Byte → Instr} {k : Shift8}
    (hm : ∀ l, exec (m l) s = zDone (locTime l 8 15) (rotateLoc k l s))
    (hx : ∀ d, exec (ix d) s = zDone 23 (rotateIdx k .ix d s)) (hy : ∀ d, exec (iy d) s = zDone 23 (rotateIdx k .iy d s)) :
    RotatesM s m ix iy k := by
  refine ⟨fun r => ?_, ?_, fun d ii => ?_⟩
  · refine ⟨_, ?_, shiftF_flags ..⟩
    rw [Z80Next, hm, ← shift8_getF, withRegF]
    exact congrArg (fun z => Host.Outcome.next { s with z := z, cycles := 8 }) (setF_setR ..)
  · refine ⟨_, ?_, shiftF_flags ..⟩
    rw [Z80Stores, hm, ← shift8_getF]
    rfl
  · refine ⟨_, ?_, shiftF_flags ..⟩
    rw [Z80Stores, ← shift8_getF]
    cases ii with
    | ix => exact hx d
    | iy => exact hy d

/-- Settles O9: each form is `rotateA`, `rotateLoc` or `rotateIdx` of its shift. -/
theorem z80Rotates : Obligations.Z80Rotates := by
  have rm {s : State} {m : Loc8 → Instr} {ix iy : Byte → Instr} (k : Shift8) := @rotatesM_of_exec s m ix iy k
  exact ⟨fun s => ⟨rotatesA_of_exec rfl, rotatesA_of_exec rfl, rotatesA_of_exec rfl, rotatesA_of_exec rfl⟩, fun s =>
    ⟨rm _ (fun _ => rfl) (fun _ => rfl) (fun _ => rfl), rm _ (fun _ => rfl) (fun _ => rfl) (fun _ => rfl),
      rm _ (fun _ => rfl) (fun _ => rfl) (fun _ => rfl), rm _ (fun _ => rfl) (fun _ => rfl) (fun _ => rfl),
      rm _ (fun _ => rfl) (fun _ => rfl) (fun _ => rfl), rm _ (fun _ => rfl) (fun _ => rfl) (fun _ => rfl),
      rm _ (fun _ => rfl) (fun _ => rfl) (fun _ => rfl), rm _ (fun _ => rfl) (fun _ => rfl) (fun _ => rfl)⟩⟩

/-- Settles O10: the 256 bytes and the two carries in are evaluated. -/
theorem z80Rlc8 : Obligations.Z80Rlc8 := by
  unfold Obligations.Z80Rlc8
  decide

/-! ### Bits and digits -/

theorem bit8_true (b : Fin 8) : bit8 b.val true = 1 <<< b.val := by
  revert b; decide

theorem bitF_flags (s : State) (b : Fin 8) (x yx : Byte) :
    Flags8 (bitF (x.getLsbD b) b yx (getF s.z)) (decide (b.val = 7) && x.getLsbD b) (!x.getLsbD b) (yx.getLsbD 5) true
      (yx.getLsbD 3) (!x.getLsbD b) false (flag s 0) := by
  rw [← fC_getF]
  exact flags8_flagsZ ..

theorem z80BitSetRes : Claims.Z80BitSetRes := by
  intro s b r d ii one v m a tested
  have hone : bit8 b.val true = one := bit8_true b
  refine ⟨⟨_, rfl, bitF_flags ..⟩, ⟨_, rfl, bitF_flags ..⟩, ⟨_, ?_, bitF_flags s b (zByte s a) (a.extractLsb' 8 8)⟩, ?_, ?_⟩
  · cases ii <;> rfl
  all_goals
    rw [← hone]
    cases ii <;> exact ⟨rfl, rfl, rfl⟩

/-! A byte by its digits: the masks and shifts of the model move a digit between the halves. -/

theorem and_high_digit (a : Byte) : a &&& 0xF0 = a.extractLsb' 4 4 ++ (0 : BitVec 4) := by
  revert a; decide

theorem and_low_digit (a : Byte) : a &&& 0x0F = (0 : BitVec 4) ++ a.extractLsb' 0 4 := by
  revert a; decide

theorem shiftLeft_digit (a : Byte) : a <<< 4 = a.extractLsb' 0 4 ++ (0 : BitVec 4) := by
  revert a; decide

theorem ushiftRight_digit (a : Byte) : a >>> 4 = (0 : BitVec 4) ++ a.extractLsb' 4 4 := by
  revert a; decide

theorem append_zero_or_zero_append (h l : BitVec 4) : (h ++ (0 : BitVec 4)) ||| ((0 : BitVec 4) ++ l) = h ++ l := by
  rw [BitVec.or_append]
  simp

theorem flagsIn_flags (s : State) (r : Byte) (pv : Bool) :
    Flags8 (flagsIn r pv (getF s.z)) (r.getLsbD 7) (r == 0) (r.getLsbD 5) false (r.getLsbD 3) pv false (flag s 0) := by
  rw [← fC_getF]
  exact flagsR_flags ..

theorem z80DigitRotates : Claims.Z80DigitRotates := by
  intro s a t hi lo flags
  constructor
  · refine ⟨flagsIn (hi a ++ hi t) (evenOnes (hi a ++ hi t)) (getF s.z), ?_, flagsIn_flags ..⟩
    have hm : (t <<< 4) ||| (a &&& 0x0F : Byte) = lo t ++ lo a := by
      rw [shiftLeft_digit, and_low_digit, append_zero_or_zero_append]
    have hr : ((a &&& (0xF0 : Byte)) ||| (t >>> 4) : Byte) = hi a ++ hi t := by
      rw [ushiftRight_digit, and_high_digit, append_zero_or_zero_append]
    rw [← parity_eq_evenOnes, ← hm, ← hr]
    rfl
  · refine ⟨flagsIn (hi a ++ lo t) (evenOnes (hi a ++ lo t)) (getF s.z), ?_, flagsIn_flags ..⟩
    have hm : (a <<< 4) ||| (t >>> 4 : Byte) = lo a ++ hi t := by
      rw [shiftLeft_digit, ushiftRight_digit, append_zero_or_zero_append]
    have hr : ((a &&& (0xF0 : Byte)) ||| (t &&& 0x0F) : Byte) = hi a ++ lo t := by
      rw [and_high_digit, and_low_digit, append_zero_or_zero_append]
    rw [← parity_eq_evenOnes, ← hm, ← hr]
    rfl

/-- Settles O11: BIT is `bitF`, SET and RES write one bit, and the digits of RLD and RRD are nibbles. -/
theorem z80BitsAndDigits : Obligations.Z80BitsAndDigits := ⟨z80BitSetRes, z80DigitRotates⟩

end Sys2Proof.Machine
end

section
/-! PROOFS. The Z80's blocks and ports, transfers, loads, stack and special instructions (42_z80_block_io.md to
44_z80_load_misc.md), and its register file (10_state.md R52). -/

namespace Sys2Proof.Machine

open Sys2Proof.Claims

/-- Settles O1: the halves are the model's, and a read after a write is `getR_setR_same` or `getR_setR_ne`. -/
theorem z80RegisterFile : Obligations.Z80RegisterFile := by
  refine fun z v => ⟨⟨rfl, rfl, rfl, rfl, rfl, rfl, rfl⟩, ⟨rfl, rfl, rfl, rfl, rfl, rfl, rfl⟩, fun r k => ?_⟩
  by_cases h : k = r
  · rw [if_pos h, h, getR_setR_same]
  · rw [if_neg h, getR_setR_ne z r k v (Ne.symm h)]

/-! ### Block instructions -/

/-- The end of a block instruction, whose step kept PC (42 R602). -/
theorem repeatWhile_eq {s t : State} (more : Bool) (h : t.z.pc = s.z.pc) :
    repeatWhile more t = .next { t with z := (blockEnd s more t.z).1, cycles := (blockEnd s more t.z).2 } := by
  cases more with
  | false => rfl
  | true =>
    have hw : t.z.pc - 2 + 1 = s.z.pc - 1 := by
      rw [h]
      bv_omega
    change zDone 21 (t.setZ { t.z with pc := t.z.pc - 2, wz := t.z.pc - 2 + 1 }) = _
    rw [hw, h]
    rfl

variable {s : State} {i : Instr} {k : BlockDir} {repeats : Bool}

theorem blockMoves_of_exec (h : exec i s = repeatWhile (repeats && bcLeft (ldStep k s)) (ldStep k s)) :
    BlockMoves s i k.delta repeats := by
  refine ⟨ldBlockF (regA s) (zByte s s.z.hl) (s.z.bc - 1 != 0) (getF s.z), h.trans (repeatWhile_eq _ rfl), ?_⟩
  rw [← fS_getF, ← fZ_getF, ← fC_getF]
  exact flags8_flagsZ ..

theorem cpBlockF_flags (s : State) (a v : Byte) (more : Bool) :
    let r := a - v
    let h := a.getLsbD 4 ^^ v.getLsbD 4 ^^ r.getLsbD 4
    let n := if h then r - 1 else r
    Flags8 (cpBlockF a v more (getF s.z)) (r.getLsbD 7) (r == 0) (n.getLsbD 1) h (n.getLsbD 3) more true (flag s 0) := by
  intro r h n
  have hh : h = (a ^^^ v ^^^ r).getLsbD 4 := (xor_xor_getLsbD a v r 4).symm
  have hn : n = r - bit8 0 h := by
    cases hc : h with
    | false => exact (if_neg (by rw [hc]; decide)).trans (by rw [bit8]; simp)
    | true => exact if_pos hc
  rw [hn, hh, ← fC_getF]
  exact flags8_flagsZ ..

/-- A block compare goes on while BC is not 0 and the bytes differ. -/
theorem cpLeft_cpStep (s : State) (k : BlockDir) :
    cpLeft (cpStep k s) = (s.z.bc - 1 != 0 && regA s - zByte s s.z.hl != 0) := by
  have hf : getF (cpStep k s).z = cpBlockF (regA s) (zByte s s.z.hl) (s.z.bc - 1 != 0) (getF s.z) := loByte_pairOf ..
  rw [cpLeft, hf, cpBlockF, fZ, flagsZ_bit6]
  rfl

theorem blockCompares_of_exec (h : exec i s = repeatWhile (repeats && cpLeft (cpStep k s)) (cpStep k s)) :
    BlockCompares s i k.delta repeats := by
  refine ⟨cpBlockF (regA s) (zByte s s.z.hl) (s.z.bc - 1 != 0) (getF s.z), ?_, cpBlockF_flags ..⟩
  rw [cpLeft_cpStep, ← Bool.and_assoc] at h
  exact h.trans (repeatWhile_eq _ rfl)

/-- Settles O12: each is `ldStep` or `cpStep` and the end of R602. -/
theorem z80BlockMemory : Obligations.Z80BlockMemory :=
  ⟨fun _ => ⟨blockMoves_of_exec (k := .up) rfl, blockMoves_of_exec (k := .down) rfl, blockMoves_of_exec (k := .up) rfl,
      blockMoves_of_exec (k := .down) rfl⟩,
    fun _ => ⟨blockCompares_of_exec (k := .up) rfl, blockCompares_of_exec (k := .down) rfl,
      blockCompares_of_exec (k := .up) rfl, blockCompares_of_exec (k := .down) rfl⟩⟩

/-! ### Ports -/

/-- A read of a port: its answer, and the draw of a free value where there is none (log 5). -/
theorem ioRead_eq (s : State) (port : Word) : ioRead s port = (portIn s port, { s with draws := drawsAfterIn s port }) := by
  rw [ioRead, portIn, drawsAfterIn]
  cases portAnswer s.host.ports port.toNat <;> rfl

theorem ioBlockF_flags (b v : Byte) (k : Nat) : BlockIoFlags (ioBlockF b v k) b v k := by
  rw [BlockIoFlags, ← parity_eq_evenOnes]
  exact flagsR_flags ..

/-- The state after `inStep`, with the port's answer named. -/
theorem inStep_eq (s : State) (k : BlockDir) : inStep k s =
    (let v := portIn s s.z.bc
     let b := hiByte s.z.bc - 1
     let c := loByte s.z.bc
     let f := ioBlockF b v (v.toNat + (c + loByte k.delta).toNat)
     { s with
       z := { s.z with hl := s.z.hl + k.delta, bc := pairOf b c, wz := s.z.bc + k.delta, af := regA s ++ f }
       bus := Bus.writeZ s.bus s.z.hl v, draws := drawsAfterIn s s.z.bc }) := by
  rw [inStep, ioRead_eq]
  rfl

theorem bLeft_inStep (s : State) (k : BlockDir) : bLeft (inStep k s) = (s.z.bc.extractLsb' 8 8 - 1 != 0) := by
  rw [bLeft, inStep_eq]
  exact congrArg (· != 0) (hiByte_pairOf ..)

theorem blockReads_of_exec (h : exec i s = repeatWhile (repeats && bLeft (inStep k s)) (inStep k s)) :
    BlockReads s i k.delta repeats := by
  refine ⟨_, ?_, ioBlockF_flags ..⟩
  rw [bLeft_inStep, inStep_eq] at h
  exact h.trans (repeatWhile_eq _ rfl)

theorem bLeft_outStep (s : State) (k : BlockDir) : bLeft (outStep k s) = (s.z.bc.extractLsb' 8 8 - 1 != 0) :=
  congrArg (· != 0) (hiByte_pairOf ..)

theorem blockWrites_of_exec (h : exec i s = repeatWhile (repeats && bLeft (outStep k s)) (outStep k s)) :
    BlockWrites s i k.delta repeats := by
  refine ⟨ioBlockF (s.z.bc.extractLsb' 8 8 - 1) (zByte s s.z.hl) _, ?_, ioBlockF_flags ..⟩
  rw [bLeft_outStep, outStep, withHi, hiByte_pairOf] at h
  exact h.trans (repeatWhile_eq _ rfl)

/-- Settles O13: each is `inStep` or `outStep` and the end of R602. -/
theorem z80BlockIo : Obligations.Z80BlockIo := fun _ =>
  ⟨⟨blockReads_of_exec (k := .up) rfl, blockReads_of_exec (k := .down) rfl, blockReads_of_exec (k := .up) rfl,
      blockReads_of_exec (k := .down) rfl⟩,
    blockWrites_of_exec (k := .up) rfl, blockWrites_of_exec (k := .down) rfl, blockWrites_of_exec (k := .up) rfl,
    blockWrites_of_exec (k := .down) rfl⟩

/-- Settles O14: the inputs by `ioRead_eq`. -/
theorem z80PortIo : Obligations.Z80PortIo := by
  intro s n r a p v
  refine ⟨?_, ⟨flagsIn v (parity v) (getF s.z), ?_, ?_⟩, rfl, rfl⟩
  · change execInAN n s = _
    rw [execInAN, ioRead_eq]
    rfl
  · change execInRC r s = _
    rw [execInRC, ioRead_eq]
    rfl
  · rw [← parity_eq_evenOnes]
    exact flagsIn_flags ..

/-! ### Transfers -/

theorem cond8_eq_zcond (s : State) (cc : Cond8) : cond8 cc (getF s.z) = zcond s cc := by
  cases cc <;> simp only [cond8, zcond, fZ_getF, fC_getF, fPV_getF, fS_getF]

theorem z80Jumps : Claims.Z80Jumps := by
  intro s cc nn e jr b jumps
  refine ⟨rfl, ?_, rfl, ⟨?_, ?_, ?_, ?_⟩, rfl, rfl, rfl, rfl⟩
  · change Z80Next ..
    rw [Z80Next, ← cond8_eq_zcond, ite_self]
    rfl
  · change Z80Next ..
    rw [← fZ_getF]
    rfl
  · change Z80Next ..
    rw [← fZ_getF]
    rfl
  · change Z80Next ..
    rw [← fC_getF]
    rfl
  · change Z80Next ..
    rw [← fC_getF]
    rfl

/-- A call that is taken: PC pushed, then the jump (43 R716). -/
theorem callTo_eq (target : Word) (s : State) : callTo target s = { s with
    z := { s.z with pc := target, wz := target, sp := s.z.sp - 2 }
    bus := Bus.writeZ (Bus.writeZ s.bus (s.z.sp - 1) (s.z.pc.extractLsb' 8 8)) (s.z.sp - 2) (s.z.pc.extractLsb' 0 8) } := by
  rw [callTo, push16_eq]
  rfl

theorem pushes_of_exec {target : Word} {t : Nat} (h : exec i s = zDone t (callTo target s)) :
    Z80Pushes s i t { s.z with pc := target, wz := target } s.z.pc := by
  rw [callTo_eq] at h
  exact h

theorem execCallCcNn_taken {cc : Cond8} (nn : Word) (h : zcond s cc = true) :
    exec (.callCcNn cc nn) s = zDone 17 (callTo nn s) := if_pos ((cond8_eq_zcond s cc).trans h)

theorem execRetCc_taken {cc : Cond8} (h : zcond s cc = true) : exec (.retCc cc) s = zDone 11 (returnZ s) :=
  if_pos ((cond8_eq_zcond s cc).trans h)

theorem cond8_of_zcond_false {cc : Cond8} (h : zcond s cc = false) : ¬ cond8 cc (getF s.z) = true := by
  rw [cond8_eq_zcond, h]
  decide

theorem z80CallsReturns : Claims.Z80CallsReturns := by
  intro s cc nn y p t back
  have hp : exec (.rst y) s = zDone 11 (callTo p s) := by
    change execRst y s = _
    rw [execRst, Nat.mul_comm]
  exact ⟨pushes_of_exec rfl, fun h => pushes_of_exec (execCallCcNn_taken nn h), fun h => if_neg (cond8_of_zcond_false h),
    pushes_of_exec hp, rfl, fun h => execRetCc_taken h, fun h => if_neg (cond8_of_zcond_false h), rfl, rfl⟩

/-- Settles O15. -/
theorem z80Transfers : Obligations.Z80Transfers := ⟨z80Jumps, z80CallsReturns⟩

/-! ### Loads, stack, exchanges, special instructions -/

/-- A load from an indexed address: WZ and the register are written in either order. -/
theorem ldRIdx_next (s : State) (r : Reg8) (d : Byte) (ii : IndexReg) : zDone 19 (loadRIdx ii r d s) = .next { s with
    z := { setR s.z r (zByte s (indexed s ii d)) with wz := indexed s ii d }, cycles := 19 } := by
  cases ii <;> cases r <;> rfl

/-- Settles O16: every load is what its meaning computes to; an indexed one for either index register. -/
theorem z80Loads : Obligations.Z80Loads := by
  refine ⟨fun s r r' n d nn ii => ?_, fun s nn => ⟨⟨rfl, rfl, rfl, rfl, rfl, rfl⟩, ⟨rfl, rfl, rfl, rfl, rfl, rfl, rfl⟩,
    ⟨rfl, rfl, rfl, rfl, rfl, rfl, rfl⟩, rfl, rfl, rfl⟩⟩
  refine ⟨⟨rfl, rfl, rfl⟩, ⟨rfl, rfl⟩, ?_, ⟨rfl, rfl, rfl⟩, rfl, rfl, rfl⟩
  cases ii with
  | ix => exact ⟨ldRIdx_next s r d .ix, rfl, rfl⟩
  | iy => exact ⟨ldRIdx_next s r d .iy, rfl, rfl⟩

theorem pushes_word {v : Word} {t : Nat} (h : exec i s = zDone t (push16 s v)) : Z80Pushes s i t s.z v := by
  rw [push16_eq] at h
  exact h

/-- Settles O17: PUSH by `push16_eq`; the others are what their meanings compute to. -/
theorem z80StackExchange : Obligations.Z80StackExchange :=
  ⟨fun _ => ⟨⟨pushes_word rfl, pushes_word rfl, pushes_word rfl, pushes_word rfl, pushes_word rfl, pushes_word rfl⟩,
      rfl, rfl, rfl, rfl, rfl, rfl⟩,
    fun _ => ⟨rfl, rfl, rfl, rfl, rfl, rfl⟩⟩

/-- Settles O18: LD A,I and LD A,R by `flagsIn_flags`. -/
theorem z80Special : Obligations.Z80Special := fun s =>
  ⟨⟨_, rfl, flagsIn_flags s ..⟩, ⟨_, rfl, flagsIn_flags s ..⟩, ⟨rfl, rfl⟩, ⟨rfl, rfl⟩, ⟨rfl, rfl⟩, rfl, rfl, rfl⟩

end Sys2Proof.Machine
end

section
/-! PROOFS. The arithmetic of the 68000 (45_m68k_data_arith.md sections 1, 3 to 5): the primitives with every flag, an
operand that is read, and one that is read and written back. -/

namespace Sys2Proof.Machine

open Sys2Proof.Claims

/-! ### SR -/

theorem ccr_withXnzvc (sr : Word) (x n z v c : Bool) : Ccr (withXnzvc sr x n z v c) sr x n z v c :=
  ⟨withXnzvc_getLsbD _ _ _ _ _ _ 4, withXnzvc_getLsbD _ _ _ _ _ _ 3, withXnzvc_getLsbD _ _ _ _ _ _ 2,
    withXnzvc_getLsbD _ _ _ _ _ _ 1, withXnzvc_getLsbD _ _ _ _ _ _ 0, withXnzvc_ushiftRight ..⟩

theorem ccr_withNzvc (sr : Word) (n z v c : Bool) : Ccr (withNzvc sr n z v c) sr (sr.getLsbD 4) n z v c :=
  ⟨withNzvc_getLsbD _ _ _ _ _ 4, withNzvc_getLsbD _ _ _ _ _ 3, withNzvc_getLsbD _ _ _ _ _ 2,
    withNzvc_getLsbD _ _ _ _ _ 1, withNzvc_getLsbD _ _ _ _ _ 0, withNzvc_ushiftRight ..⟩

/-! ### Values cut to a size -/

theorem msb_cut (sz : Size) (v : Long) : msb sz (cut sz v) = msb sz v := by
  rw [msb, cut_getLsbD, msb]
  cases sz <;> simp [Size.bytes]

theorem low_cut (sz : Size) (v : Long) : low sz (cut sz v) = low sz v := by
  rw [low, cut_toNat, low, Nat.mod_mod]

theorem cut_cut (sz : Size) (v : Long) : cut sz (cut sz v) = cut sz v := by
  rw [cut_eq_ofNat, low_cut, ← cut_eq_ofNat]

theorem cut_beq_zero (sz : Size) (v : Long) : (cut sz v == 0) = decide (low sz v = 0) := by
  rw [← cut_toNat]
  exact decide_eq_decide.2 BitVec.toNat_eq

theorem low_lt (sz : Size) (v : Long) : low sz v < 2 ^ (8 * sz.bytes) := Nat.mod_lt _ (Nat.two_pow_pos _)

theorem extractLsb'_cut (sz : Size) (v : Long) {i k : Nat} (h : i + k ≤ 8 * sz.bytes) :
    (cut sz v).extractLsb' i k = v.extractLsb' i k := by
  apply BitVec.eq_of_getLsbD_eq
  intro j hj
  simp only [BitVec.getLsbD_extractLsb', cut_getLsbD]
  rw [decide_eq_true (show i + j < 8 * sz.bytes by omega), Bool.and_true]

theorem writeMem_cut (b : Bus) (a : Long) (sz : Size) (v : Long) : writeMem b a sz (cut sz v) = writeMem b a sz v := by
  have h {i : Nat} (hi : i + 8 ≤ 8 * sz.bytes) := extractLsb'_cut sz v hi
  cases sz with
  | b => exact congrArg (Bus.writeM b (busAddr a)) (h (i := 0) (by decide))
  | w => rw [writeMem_word, writeMem_word, h (i := 8) (by decide), h (i := 0) (by decide)]
  | l =>
    rw [writeMem_long, writeMem_long, h (i := 24) (by decide), h (i := 16) (by decide), h (i := 8) (by decide),
      h (i := 0) (by decide)]

/-- A write of a location depends on the value at the size alone. -/
theorem Loc.put_cut (l : Loc) (s : State) (sz : Size) (v : Long) : l.put s sz (cut sz v) = l.put s sz v := by
  cases l with
  | dreg n => exact congrArg (fun r => setD s n ((s.m.d[n] &&& ~~~ (sizeMask sz)) ||| r)) (cut_cut sz v)
  | areg n =>
    have h : sextL sz (cut sz v) = sextL sz v := by
      simp only [sextL_eq_wide, wide, extractLsb'_cut sz v (Nat.le_of_eq (Nat.zero_add _))]
    exact congrArg (setAn s n) h
  | mem a => exact congrArg (fun b => { s with bus := b }) (writeMem_cut ..)
  | imm _ => rfl

theorem moveFlags_flags (sr : Word) (sz : Size) (r : Long) : MoveFlags (moveFlags sr sz r) sr sz r := by
  rw [MoveFlags, ← signBit_eq_msb, ← cut_beq_zero]
  exact ccr_withNzvc ..

/-! ### The primitives `addf` and `subf` -/

/-- The primitive of the model. -/
def aluOf (o : Arith) : Long → Long → Bool → Size → Alu :=
  match o with
  | .add => addf
  | .sub => subf

section
variable (o : Arith) (s d : Long) (x : Bool) (sz : Size)

theorem aluOf_r : (aluOf o s d x sz).r = cut sz (o.result sz s d x) := by
  cases o with
  | add => simp only [aluOf, addf, cut_toNat, Arith.result]
  | sub => simp only [aluOf, subf, Arith.result, sub_sub_eq_ofInt, cut_toNat]

theorem aluOf_c : (aluOf o s d x sz).c = o.carry sz s d x := by
  cases o with
  | add =>
    simp only [aluOf, addf, cut_toNat, Arith.carry]
    refine decide_eq_decide.2 ?_
    cases sz <;> exact Iff.rfl
  | sub => simp only [aluOf, subf, cut_toNat, Arith.carry]

theorem aluOf_n : (aluOf o s d x sz).n = msb sz (o.result sz s d x) := by
  have h : (aluOf o s d x sz).n = signBit sz (aluOf o s d x sz).r := by cases o <;> rfl
  rw [h, signBit_eq_msb, aluOf_r, msb_cut]

theorem aluOf_z : (aluOf o s d x sz).z = decide (low sz (o.result sz s d x) = 0) := by
  have h : (aluOf o s d x sz).z = ((aluOf o s d x sz).r == 0) := by cases o <;> rfl
  rw [h, aluOf_r, cut_beq_zero]

theorem aluOf_v : (aluOf o s d x sz).v = o.overflow sz s d x := by
  have hr : msb sz (aluOf o s d x sz).r = msb sz (o.result sz s d x) := by rw [aluOf_r, msb_cut]
  have hs := msb_cut sz s
  have hd := msb_cut sz d
  have hk : 8 * sz.bytes - 1 < 32 := by cases sz <;> decide
  cases o with
  | add =>
    have hv : (addf s d x sz).v = msb sz (~~~ (cut sz s ^^^ cut sz d) &&& (cut sz d ^^^ (addf s d x sz).r)) :=
      signBit_eq_msb ..
    rw [aluOf, hv, Arith.overflow, ← hr, ← hs, ← hd, BitVec.xor_comm (cut sz s), msb, sum_overflow _ _ _ hk]
    exact congrArg (· && _) BEq.comm
  | sub =>
    have hv : (subf s d x sz).v = msb sz ((cut sz s ^^^ cut sz d) &&& (cut sz d ^^^ (subf s d x sz).r)) :=
      signBit_eq_msb ..
    rw [aluOf, hv, Arith.overflow, ← hr, ← hs, ← hd, BitVec.xor_comm (cut sz s), msb, difference_overflow]
    exact congrArg (· && _) bne_comm

theorem aluFlags_flags (old : Word) :
    let v := o.result sz s d x
    Ccr (aluFlags old (aluOf o s d x sz)) old (o.carry sz s d x) (msb sz v) (decide (low sz v = 0)) (o.overflow sz s d x)
      (o.carry sz s d x) := by
  intro v
  rw [← aluOf_c, ← aluOf_n, ← aluOf_z, ← aluOf_v]
  exact ccr_withXnzvc ..

theorem aluFlagsX_flags (old : Word) : ArithFlagsX o (aluFlagsX old (aluOf o s d (old.getLsbD 4) sz)) old sz s d := by
  rw [ArithFlagsX, ← aluOf_c, ← aluOf_n, ← aluOf_z, ← aluOf_v]
  exact ccr_withXnzvc ..

theorem cmpFlags_flags (old : Word) : CompareFlags (cmpFlags old (subf s d false sz)) old sz s d := by
  rw [CompareFlags, ← aluOf_c, ← aluOf_n, ← aluOf_z, ← aluOf_v]
  exact ccr_withNzvc ..

end

/-! ### The primitives of both CPUs -/

theorem sub8_add8 (a b : Byte) : (sub8 (add8 a b false).1 b false).1 = a := by
  have h : (add8 a b false).1 = a + b := rfl
  rw [h]
  simp [sub8, BitVec.add_sub_cancel]

/-- The bit of overflow says that the signed sum is outside its range (40 R403). -/
theorem add8_overflow (a b : Byte) :
    (add8 a b false).2.getLsbD 2 = decide (a.toInt + b.toInt < -128 ∨ a.toInt + b.toInt > 127) := by
  obtain ⟨-, -, -, -, -, hv, -⟩ := add8_flags a b false
  have hs := BitVec.saddOverflow_eq a b
  have hr : BitVec.ofNat 8 (a.toNat + b.toNat + false.toNat) = a + b := rfl
  rw [hr] at hv
  simp only [BitVec.saddOverflow, BitVec.msb_eq_getLsbD_last] at hs
  rw [hv, bne, BEq.comm (a := a.getLsbD 7) (b := (a + b).getLsbD 7), ← hs, ← Bool.decide_or]
  exact decide_eq_decide.2 (by omega)

/-- Settles O23: the flags by `add8_flags`, `sub8_flags` and `aluFlags_flags`. -/
theorem adders : Obligations.Adders := by
  refine ⟨fun a b cin => ⟨⟨rfl, add8_flags a b cin⟩, ⟨sub8_fst a b cin, sub8_flags a b cin⟩, sub8_add8 a b,
    add8_overflow a b⟩, fun s d x sz old => ⟨⟨?_, aluFlags_flags .add s d x sz old⟩, ?_, aluFlags_flags .sub s d x sz old⟩⟩
  · exact (congrArg _ (aluOf_r .add s d x sz)).trans (cut_toNat ..)
  · exact (congrArg _ (aluOf_r .sub s d x sz)).trans (cut_toNat ..)

end Sys2Proof.Machine
end

section
/-! PROOFS. The 68000's operand shapes, and the instructions of 45_m68k_data_arith.md sections 3 to 5 in them. -/

namespace Sys2Proof.Machine

open Sys2Proof.Claims

/-! ### The shapes: an operand that is read, and one that is read and written back -/

section
variable {s : State} {i : Instr} {sz : Size} {pw : Long} {ea : Ea}

theorem loadEa_reachable (h : (locOf s sz pw ea).reachable sz = true) :
    loadEa s sz pw ea = .ok ((locOf s sz pw ea).value (sideOf s sz pw ea) sz, sideOf s sz pw ea) := loadEa_ok _ _ _ _ h

theorem readsEa_of_exec {k : Long × State → Except Fault State} {res : State → Long → State} {fl : Word → Long → Prop}
    (hi : exec i s = finish (loadEa s sz pw ea >>= k))
    (hk : ∀ v, ∃ sr, k (v, sideOf s sz pw ea) = .ok (withSr (res (sideOf s sz pw ea) v) sr) ∧ fl sr v) :
    ReadsEa s i sz pw ea res fl := by
  intro hr
  obtain ⟨sr, he, hf⟩ := hk ((locOf s sz pw ea).value (sideOf s sz pw ea) sz)
  refine ⟨sr, ?_, hf⟩
  rw [hi, loadEa_reachable hr]
  exact congrArg finish he

theorem modifiesEa_of_exec {f : Word → Long → Long × Word} {res : Long → Long} {fl : Word → Long → Prop}
    (hi : exec i s = finish (modifyEa s sz pw ea f))
    (hf : ∀ v, cut sz (f s.m.sr v).1 = cut sz (res v) ∧ fl (f s.m.sr v).2 v) : ModifiesEa s i sz pw ea res fl := by
  intro hr
  obtain ⟨hv, hsr⟩ := hf ((locOf s sz pw ea).value (sideOf s sz pw ea) sz)
  refine ⟨_, ?_, hsr⟩
  rw [hi, modifyEa_ok _ _ _ _ _ hr, ← Loc.put_cut _ _ _ (res _), ← hv, Loc.put_cut]
  change Host.Outcome.next (setSr _ _) = _
  rw [resolve_sr]
  rfl

theorem modifiesPre_of_exec {y x : Fin 8} {f : Long → Word → Long → Long × Word} {res : Long → Long → Long}
    {fl : Word → Long → Long → Prop}
    (hi : exec i s = finish (loadEa s sz 0 (.preDec y) >>= fun p => modifyEa p.2 sz 0 (.preDec x) (f p.1)))
    (hf : ∀ a b, cut sz (f a s.m.sr b).1 = cut sz (res a b) ∧ fl (f a s.m.sr b).2 a b) :
    ModifiesPre s i sz y x res fl := by
  intro hy hx
  obtain ⟨hv, hsr⟩ := hf ((locOf s sz 0 (.preDec y)).value (sideOf s sz 0 (.preDec y)) sz) _
  refine ⟨_, ?_, hsr⟩
  rw [hi, loadEa_reachable hy]
  change finish (modifyEa (sideOf s sz 0 (.preDec y)) sz 0 (.preDec x) (f _)) = _
  rw [modifyEa_ok _ _ _ _ _ hx, ← Loc.put_cut _ _ _ (res _ _), ← hv, Loc.put_cut]
  rfl

end

/-! ### Addition and subtraction -/

section
variable {s : State} {i : Instr} {sz : Size} {ea : Ea} {o : Arith}

theorem quick_eq (q : Fin 8) : quick q = quickOf q := by
  revert q; decide

theorem arithToD_readsEa {n : Fin 8} (hi : exec i s = finish (arithToD (aluOf o) sz ea n s)) :
    ReadsEa s i sz (s.m.pc0 + 2) ea (fun u v => (Loc.dreg n).put u sz (o.result sz v s.m.d[n] false))
      fun sr v => ArithFlags o sr s.m.sr sz v s.m.d[n] := by
  refine readsEa_of_exec hi fun v => ⟨_, ?_, aluFlags_flags o v s.m.d[n] false sz s.m.sr⟩
  have hd : getD (sideOf s sz (s.m.pc0 + 2) ea) n = s.m.d[n] := by rw [getD, sideOf, resolve_d]
  have hsr : (sideOf s sz (s.m.pc0 + 2) ea).m.sr = s.m.sr := resolve_sr ..
  rw [← Loc.put_cut, ← aluOf_r, ← hsr]
  change Except.ok (setSr (setDsz _ n sz (aluOf o v (getD _ n) false sz).r) (aluFlags _ (aluOf o v (getD _ n) false sz))) = _
  rw [hd]
  rfl

theorem arithToEa_modifiesEa {a : Long} (hi : exec i s = finish (arithToEa (aluOf o) sz a (s.m.pc0 + 2) ea s)) :
    ModifiesEa s i sz (s.m.pc0 + 2) ea (fun v => o.result sz a v false) fun sr v => ArithFlags o sr s.m.sr sz a v := by
  refine modifiesEa_of_exec hi fun v => ⟨?_, aluFlags_flags o a v false sz s.m.sr⟩
  rw [aluOf_r, cut_cut]

theorem arithQuick_of_not_areg {op : Long → Long → Bool → Size → Alu} {q : Fin 8} (h : ea.isAreg = false) :
    arithQuick op q sz ea s = arithToEa op sz (quickOf q) (s.m.pc0 + 2) ea s := by
  rw [← quick_eq]
  cases ea with
  | areg n => cases h
  | _ => rfl

theorem m68kAddSub : Claims.M68kAddSub := by
  intro s sz ea n imm q pw d toD toEa
  refine ⟨⟨arithToD_readsEa (o := .add) rfl, arithToD_readsEa (o := .sub) rfl⟩,
    ⟨arithToEa_modifiesEa (o := .add) rfl, arithToEa_modifiesEa (o := .sub) rfl⟩,
    ⟨arithToEa_modifiesEa (o := .add) rfl, arithToEa_modifiesEa (o := .sub) rfl⟩, fun h => ?_, ?_⟩
  · exact ⟨arithToEa_modifiesEa (o := .add) (congrArg finish (arithQuick_of_not_areg h)),
      arithToEa_modifiesEa (o := .sub) (congrArg finish (arithQuick_of_not_areg h))⟩
  · refine modifiesEa_of_exec rfl fun v => ⟨?_, aluFlags_flags .sub v 0 false sz s.m.sr⟩
    exact (congrArg (cut sz) (aluOf_r .sub v 0 false sz)).trans (cut_cut ..)

/-! At the size long the primitives are the sum and the difference. -/

theorem cut_long (v : Long) : cut .l v = v := by
  rw [cut_eq_ofNat, low]
  change BitVec.ofNat 32 (v.toNat % 2 ^ 32) = v
  rw [Nat.mod_eq_of_lt v.isLt, BitVec.ofNat_toNat, BitVec.setWidth_eq]

theorem addf_long (a b : Long) : (addf a b false .l).r = b + a := by
  simp only [addf, cut_long]
  rfl

theorem subf_long (a b : Long) : (subf a b false .l).r = b - a := by
  simp only [subf, cut_long]
  exact BitVec.sub_zero _

theorem arithToA_next {n : Fin 8} {op : Long → Long → Bool → Size → Alu} (hi : exec i s = finish (arithToA op sz ea n s))
    (hr : (locOf s sz (s.m.pc0 + 2) ea).reachable sz = true) :
    exec i s = .next (setAn (sideOf s sz (s.m.pc0 + 2) ea) n
      (op (wide sz ((locOf s sz (s.m.pc0 + 2) ea).value (sideOf s sz (s.m.pc0 + 2) ea) sz))
        (sideOf s sz (s.m.pc0 + 2) ea).m.a[n] false .l).r) := by
  rw [hi, arithToA, firstExt, loadEa_reachable hr, ← sextL_eq_wide]
  rfl

theorem m68kAddressArith : Claims.M68kAddressArith := by
  intro s sz ea n q l u v setA
  refine ⟨fun hr => ⟨?_, ?_⟩, ?_, ?_⟩
  · exact (arithToA_next (op := addf) rfl hr).trans (congrArg (fun r => Host.Outcome.next (setAn u n r)) (addf_long v u.m.a[n]))
  · exact (arithToA_next (op := subf) rfl hr).trans (congrArg (fun r => Host.Outcome.next (setAn u n r)) (subf_long v u.m.a[n]))
  · exact congrArg (fun r => Host.Outcome.next (setAn s n r)) ((addf_long ..).trans (congrArg _ (quick_eq q)))
  · exact congrArg (fun r => Host.Outcome.next (setAn s n r)) ((subf_long ..).trans (congrArg _ (quick_eq q)))

/-- Settles O22. -/
theorem m68kAddSubAll : Obligations.M68kAddSubAll := ⟨m68kAddSub, m68kAddressArith⟩

/-! ### The extended forms and the compares -/

theorem arithX_extended {y x : Fin 8} {i : XForm → Instr} (hi : ∀ f, exec (i f) s = finish (arithX (aluOf o) sz f y x s)) :
    (∃ sr, exec (i .regs) s =
        .next (withSr ((Loc.dreg x).put s sz (o.result sz s.m.d[y] s.m.d[x] (s.m.sr.getLsbD 4))) sr) ∧
      ArithFlagsX o sr s.m.sr sz s.m.d[y] s.m.d[x]) ∧
    ModifiesPre s (i .mem) sz y x (fun a b => o.result sz a b (s.m.sr.getLsbD 4))
      fun sr a b => ArithFlagsX o sr s.m.sr sz a b := by
  constructor
  · refine ⟨_, ?_, aluFlagsX_flags o s.m.d[y] s.m.d[x] sz s.m.sr⟩
    rw [hi, ← Loc.put_cut, ← aluOf_r]
    rfl
  · refine modifiesPre_of_exec
      (f := fun v sr d => ((aluOf o v d (srX sr) sz).r, aluFlagsX sr (aluOf o v d (srX sr) sz))) (hi .mem) fun a b =>
        ⟨?_, aluFlagsX_flags o a b sz s.m.sr⟩
    rw [aluOf_r, cut_cut]
    rfl

/-- Settles O24. -/
theorem m68kExtended : Obligations.M68kExtended := by
  intro s sz y x ea e extended
  refine ⟨arithX_extended (o := .add) (i := fun f => .addx sz f y x) fun _ => rfl,
    arithX_extended (o := .sub) (i := fun f => .subx sz f y x) fun _ => rfl, ?_⟩
  refine modifiesEa_of_exec rfl fun v => ⟨?_, aluFlagsX_flags .sub v 0 sz s.m.sr⟩
  exact (congrArg (cut sz) (aluOf_r .sub v 0 e sz)).trans (cut_cut ..)

theorem compared_eq {u : State} (src dst : Long) (hu : u.m.sr = s.m.sr) :
    ∃ sr, compared u sz src dst = withSr u sr ∧ CompareFlags sr s.m.sr sz src dst :=
  ⟨_, congrArg (fun sr => setSr u (cmpFlags sr (subf src dst false sz))) hu, cmpFlags_flags src dst sz s.m.sr⟩

theorem compares_of_exec {k : Long × State → Except Fault State} {pw : Long} {sz' : Size} {a b : Long → Long}
    (hi : exec i s = finish (loadEa s sz pw ea >>= k))
    (hk : ∀ v, k (v, sideOf s sz pw ea) = .ok (compared (sideOf s sz pw ea) sz' (a v) (b v))) :
    ReadsEa s i sz pw ea (fun u _ => u) fun sr v => CompareFlags sr s.m.sr sz' (a v) (b v) := by
  refine readsEa_of_exec hi fun v => ?_
  obtain ⟨sr, he, hf⟩ := compared_eq (sz := sz') (u := sideOf s sz pw ea) (a v) (b v) (resolve_sr ..)
  exact ⟨sr, (hk v).trans (congrArg _ he), hf⟩

/-- Settles O25. -/
theorem m68kCompare : Obligations.M68kCompare := by
  intro s sz ea n imm y x pw keep
  refine ⟨?_, ?_, compares_of_exec rfl fun v => rfl, fun hl hk => ?_⟩
  · refine compares_of_exec (a := fun v => v) (b := fun _ => s.m.d[n]) rfl fun v => ?_
    have hd : (sideOf s sz pw ea).m.d = s.m.d := resolve_d ..
    rw [← hd]
    rfl
  · refine compares_of_exec (a := fun v => wide sz v) (b := fun _ => (sideOf s sz pw ea).m.a[n]) rfl fun v => ?_
    rw [← sextL_eq_wide]
    rfl
  · obtain ⟨sr, he, hf⟩ := compared_eq (s := s) (sz := sz) (u := sideOf (sideOf s sz 0 (.postInc y)) sz 0 (.postInc x))
      ((locOf s sz 0 (.postInc y)).value (sideOf s sz 0 (.postInc y)) sz)
      ((locOf (sideOf s sz 0 (.postInc y)) sz 0 (.postInc x)).value
        (sideOf (sideOf s sz 0 (.postInc y)) sz 0 (.postInc x)) sz) rfl
    refine ⟨sr, ?_, hf⟩
    rw [← he]
    change execCmpm sz y x s = _
    rw [execCmpm, loadEa_reachable hl]
    change finish (loadEa (sideOf s sz 0 (.postInc y)) sz 0 (.postInc x) >>= _) = _
    rw [loadEa_reachable hk]
    rfl

end

end Sys2Proof.Machine
end

section
/-! PROOFS. The 68000's moves, logic, bit operations and condition codes (45_m68k_data_arith.md section 2,
46_m68k_logic_shift_bit.md sections 2, 4 and 6, 47_m68k_control_system.md section 5). -/

namespace Sys2Proof.Machine

open Sys2Proof.Claims

section
variable {s : State} {i : Instr} {sz : Size} {ea : Ea}

theorem sideOf_sr (s : State) (sz : Size) (pw : Long) (ea : Ea) : (sideOf s sz pw ea).m.sr = s.m.sr := resolve_sr ..

theorem sideOf_d (s : State) (sz : Size) (pw : Long) (ea : Ea) (n : Fin 8) : (sideOf s sz pw ea).m.d[n] = s.m.d[n] :=
  congrArg (fun d : Vector Long 8 => d[n]) (resolve_d s sz pw ea)

theorem storeEa_reachable {pw v : Long} (h : (locOf s sz pw ea).reachable sz = true) :
    storeEa s sz pw ea v = .ok ((locOf s sz pw ea).put (sideOf s sz pw ea) sz v) := storeEa_ok _ _ _ _ _ h

/-! ### Logic -/

theorem logicToD_readsEa {op : Long → Long → Long} {n : Fin 8} (hi : exec i s = finish (logicToD op sz ea n s)) :
    ReadsEa s i sz (s.m.pc0 + 2) ea (fun u v => (Loc.dreg n).put u sz (op v s.m.d[n]))
      fun sr v => MoveFlags sr s.m.sr sz (op v s.m.d[n]) := by
  refine readsEa_of_exec hi fun v => ⟨_, ?_, moveFlags_flags s.m.sr sz (op v s.m.d[n])⟩
  rw [← sideOf_sr s sz (s.m.pc0 + 2) ea, ← sideOf_d s sz (s.m.pc0 + 2) ea n]
  rfl

theorem logicToEa_modifiesEa {op : Long → Long → Long} {a : Long} (hi : exec i s = finish (logicToEa op sz a ea s)) :
    ModifiesEa s i sz (s.m.pc0 + 2) ea (op a) fun sr v => MoveFlags sr s.m.sr sz (op a v) :=
  modifiesEa_of_exec hi fun v => ⟨rfl, moveFlags_flags s.m.sr sz (op a v)⟩

/-- Settles O27. -/
theorem m68kLogic : Obligations.M68kLogic := fun s sz _ _ _ =>
  ⟨⟨logicToD_readsEa rfl, logicToD_readsEa rfl⟩,
    ⟨logicToEa_modifiesEa rfl, logicToEa_modifiesEa rfl, logicToEa_modifiesEa rfl⟩,
    ⟨logicToEa_modifiesEa rfl, logicToEa_modifiesEa rfl, logicToEa_modifiesEa rfl⟩,
    modifiesEa_of_exec rfl fun v => ⟨rfl, moveFlags_flags s.m.sr sz (~~~ v)⟩⟩

/-! ### Moves -/

/-- The flags of a move, over a state that kept SR. -/
theorem moved_eq {u : State} (v : Long) (hu : u.m.sr = s.m.sr) :
    ∃ sr, moved u sz v = withSr u sr ∧ MoveFlags sr s.m.sr sz v :=
  ⟨_, congrArg (fun sr => setSr u (moveFlags sr sz v)) hu, moveFlags_flags s.m.sr sz v⟩

theorem moveEa_next {src dst : Ea} (hi : exec i s = finish (moveEa sz src dst s))
    (hl : (locOf s sz (s.m.pc0 + 2) src).reachable sz = true)
    (hd : (locOf (sideOf s sz (s.m.pc0 + 2) src) sz (s.m.pc0 + 2) dst).reachable sz = true) :
    let u := sideOf s sz (s.m.pc0 + 2) src
    let v := (locOf s sz (s.m.pc0 + 2) src).value u sz
    ∃ sr, exec i s = .next (withSr ((locOf u sz (s.m.pc0 + 2) dst).put (sideOf u sz (s.m.pc0 + 2) dst) sz v) sr) ∧
      MoveFlags sr s.m.sr sz v := by
  intro u v
  obtain ⟨sr, he, hf⟩ := moved_eq (s := s) (sz := sz) (u := (locOf u sz (s.m.pc0 + 2) dst).put
    (sideOf u sz (s.m.pc0 + 2) dst) sz v) v (by rw [Loc.put_sr, sideOf_sr, sideOf_sr])
  refine ⟨sr, ?_, hf⟩
  have hp : firstExt u = s.m.pc0 + 2 := congrArg (· + 2) (resolve_pc0 ..)
  rw [hi, moveEa, firstExt, loadEa_reachable hl, ← he]
  change finish (storeEa u sz (firstExt u) dst v >>= _) = _
  rw [hp, storeEa_reachable hd]
  rfl

theorem moveaEa_next {src : Ea} {n : Fin 8} (hi : exec i s = finish (moveaEa sz src n s))
    (hl : (locOf s sz (s.m.pc0 + 2) src).reachable sz = true) :
    exec i s = .next (setAn (sideOf s sz (s.m.pc0 + 2) src) n
      (wide sz ((locOf s sz (s.m.pc0 + 2) src).value (sideOf s sz (s.m.pc0 + 2) src) sz))) := by
  rw [hi, moveaEa, firstExt, loadEa_reachable hl, ← sextL_eq_wide]
  rfl

theorem m68kMove : Claims.M68kMove := by
  intro s pw moves movesA
  refine ⟨⟨fun _ _ hl hd => moveEa_next rfl hl hd, fun _ _ hl hd => moveEa_next rfl hl hd,
    fun _ _ hl hd => moveEa_next rfl hl hd⟩, ⟨fun _ _ hl => moveaEa_next rfl hl, fun _ _ hl => moveaEa_next rfl hl⟩,
    fun v n => ?_⟩
  exact ⟨_, rfl, moveFlags_flags s.m.sr .l (v.signExtend 32)⟩

theorem movesReg {n : Fin 8} {v : Long} (hi : exec i s = .next (moved (setDsz s n sz v) sz v)) :
    ∃ sr, exec i s = .next (withSr ((Loc.dreg n).put s sz v) sr) ∧ MoveFlags sr s.m.sr sz v := by
  obtain ⟨sr, he, hf⟩ := moved_eq (s := s) (sz := sz) (u := setDsz s n sz v) v rfl
  exact ⟨sr, hi.trans (congrArg Host.Outcome.next he), hf⟩

theorem setDsz_long (n : Fin 8) (v : Long) : setDsz s n .l v = setD s n v := by
  rw [setDsz, insertLow_long]

theorem m68kRegisters : Claims.M68kRegisters := by
  intro s x y sz ea pw v
  refine ⟨⟨rfl, rfl, rfl⟩, ?_, ?_, ?_, fun hr => ?_, ?_, rfl⟩
  · refine movesReg ?_
    rw [setDsz_long]
    rfl
  · refine movesReg ?_
    rw [← sextL_eq_wide]
    rfl
  · refine movesReg ?_
    rw [← sextL_eq_wide]
    rfl
  · obtain ⟨sr, he, hf⟩ := moved_eq (s := s) (sz := sz) (u := (locOf s sz pw ea).put (sideOf s sz pw ea) sz 0) 0
      (by rw [Loc.put_sr, sideOf_sr])
    refine ⟨sr, ?_, ?_⟩
    · change execClr sz ea s = _
      rw [execClr, firstExt, storeEa_reachable hr, ← he]
      rfl
    · have hm : msb sz 0 = false := by cases sz <;> rfl
      have hl : low sz 0 = 0 := by cases sz <;> rfl
      rw [MoveFlags, hm, hl] at hf
      exact hf
  · refine readsEa_of_exec rfl fun v => ?_
    obtain ⟨sr, he, hf⟩ := moved_eq (sz := sz) v (sideOf_sr s sz pw ea)
    exact ⟨sr, congrArg Except.ok he, hf⟩

/-- Settles O21. -/
theorem m68kMoves : Obligations.M68kMoves := ⟨m68kMove, m68kRegisters⟩

/-! ### Condition codes -/

theorem writeCCR_getLsbD (s : State) (v : Byte) {k : Nat} (hk : k < 5) :
    (writeCCR s v).m.sr.getLsbD k = v.getLsbD k := by
  rw [writeCCR_m_sr, BitVec.getLsbD_or, mask_high 5 _ _ k (ffe0_bit k), BitVec.getLsbD_setWidth, BitVec.getLsbD_and]
  have hm : (0x1F : Byte).getLsbD k = true := by
    revert hk; revert k; decide
  rw [hm, decide_eq_true (show k < 16 by omega), decide_eq_false (show ¬ 5 ≤ k by omega)]
  simp

/-- A write of CCR writes the five condition codes alone (46 R1001). -/
theorem writeCCR_codes {u : State} (v : Byte) (hu : u.m.sr = s.m.sr) :
    ∃ sr, writeCCR u v = withSr u sr ∧
      Ccr sr s.m.sr (v.getLsbD 4) (v.getLsbD 3) (v.getLsbD 2) (v.getLsbD 1) (v.getLsbD 0) := by
  refine ⟨(writeCCR u v).m.sr, rfl, writeCCR_getLsbD u v (by decide), writeCCR_getLsbD u v (by decide),
    writeCCR_getLsbD u v (by decide), writeCCR_getLsbD u v (by decide), writeCCR_getLsbD u v (by decide), ?_⟩
  rw [writeCCR_sr_ushiftRight, hu]

/-- Settles O34. -/
theorem m68kConditionCodes : Obligations.M68kConditionCodes := by
  intro s imm ea pw codes ccr sets
  have hsets {i : Instr} {v : Byte} (hi : exec i s = .next (writeCCR s v)) : sets i v := by
    obtain ⟨sr, he, hf⟩ := writeCCR_codes (s := s) (u := s) v rfl
    exact ⟨sr, hi.trans (congrArg Host.Outcome.next he), hf⟩
  refine ⟨⟨hsets rfl, hsets rfl, hsets rfl⟩, ?_, fun hr => ?_⟩
  · refine readsEa_of_exec rfl fun v => ?_
    obtain ⟨sr, he, hf⟩ := writeCCR_codes (lowByte v) (sideOf_sr s .w pw ea)
    exact ⟨sr, congrArg Except.ok he, hf⟩
  · change execMoveFromSr ea s = _
    rw [execMoveFromSr, firstExt, storeEa_reachable hr]
    rfl

/-! ### Bits, Scc and TAS -/

theorem withZ_flags (sr : Word) (z : Bool) : ZFlag (withZ sr z) sr z := by
  have hz (k : Nat) : (withZ sr z).getLsbD k = if k = 2 then z else sr.getLsbD k := withBit16_getLsbD _ _ _ _ (by decide)
  exact ⟨hz 4, hz 3, hz 2, hz 1, hz 0, withZ_ushiftRight ..⟩

theorem bitTest_readsEa {num pw : Long} (hi : exec i s = finish (bitTest num pw ea s)) :
    ReadsEa s i (bitSize ea) pw ea (fun u _ => u) fun sr v => ZFlag sr s.m.sr (!v.getLsbD (bitIndex ea num)) := by
  refine readsEa_of_exec hi fun v => ⟨_, ?_, withZ_flags s.m.sr (!v.getLsbD (bitIndex ea num))⟩
  rw [← sideOf_sr s (bitSize ea) pw ea]
  rfl

theorem bitModify_modifiesEa {kind : BitKind} {num pw : Long} (hi : exec i s = finish (bitModify kind num pw ea s)) :
    ModifiesEa s i (bitSize ea) pw ea (fun v => bitResult kind v (bitIndex ea num))
      fun sr v => ZFlag sr s.m.sr (!v.getLsbD (bitIndex ea num)) :=
  modifiesEa_of_exec hi fun _ => ⟨rfl, withZ_flags ..⟩

/-- An operand that is no data register is a byte. -/
theorem bitSize_of_ne_dreg (h : ∀ r, ea ≠ .dreg r) : bitSize ea = .b := by
  cases ea with
  | dreg n => exact absurd rfl (h n)
  | _ => rfl

theorem m68kBits : Claims.M68kBits := by
  intro s k b n ea hea chg clr set tests changes dyn p p'
  have hs := bitSize_of_ne_dreg hea
  have hx (num : Long) : bitIndex ea num = num.toNat % 8 := by rw [bitIndex, hs]; rfl
  have hb : (b.zeroExtend 32).toNat = b.toNat := by
    rw [BitVec.toNat_setWidth]
    omega
  have htests {i : Ea → Instr} {num pw : Long} (hi : ∀ e, exec (i e) s = finish (bitTest num pw e s)) :
      tests i num.toNat pw := by
    refine ⟨bitTest_readsEa (hi _), ?_⟩
    have h := bitTest_readsEa (hi ea)
    rw [hs, hx] at h
    exact h
  have hchanges {i : Ea → Instr} {num pw : Long} {kind : BitKind}
      (hi : ∀ e, exec (i e) s = finish (bitModify kind num pw e s)) : changes i num.toNat pw (bitResult kind) := by
    refine ⟨bitModify_modifiesEa (hi _), ?_⟩
    have h := bitModify_modifiesEa (hi ea)
    rw [hs, hx] at h
    exact h
  rw [← hb]
  exact ⟨⟨htests fun _ => rfl, htests fun _ => rfl⟩,
    ⟨hchanges (kind := .chg) fun _ => rfl, hchanges (kind := .chg) fun _ => rfl⟩,
    ⟨hchanges (kind := .clr) fun _ => rfl, hchanges (kind := .clr) fun _ => rfl⟩,
    hchanges (kind := .set) fun _ => rfl, hchanges (kind := .set) fun _ => rfl⟩

theorem cond16_eq_mcond (k : Cond16) (sr : Word) : cond16 k sr = mcond sr k := by
  cases k <;> rfl

/-- A byte is at any address (20_memory.md R163). -/
theorem reachable_byte (l : Loc) : l.reachable .b = true := by
  cases l <;> rfl

theorem m68kSetByte : Claims.M68kSetByte := by
  intro s k ea l u
  constructor
  · change execScc k ea s = _
    rw [execScc, firstExt, storeEa_reachable (reachable_byte _), cond16_eq_mcond]
    rfl
  · exact modifiesEa_of_exec rfl fun v => ⟨rfl, moveFlags_flags s.m.sr .b v⟩

/-- Settles O31. -/
theorem m68kBitsAndBytes : Obligations.M68kBitsAndBytes := ⟨m68kBits, m68kSetByte⟩

end

end Sys2Proof.Machine
end

section
/-! PROOFS. The 68000's shifts and rotates (46_m68k_logic_shift_bit.md section 3): the loop of R1002 in the words of the
statement, and what it comes to. -/

namespace Sys2Proof.Machine

open Sys2Proof.Claims

/-! ### One step -/

/-- What the loop carries, in the statement's words. -/
def Shifting.out (st : Shifting) : ShiftOut := { val := st.val, x := st.x, c := st.c, v := st.v }

/-- The value has no bit above the size. -/
def Shifting.Fits (sz : Size) (st : Shifting) : Prop := st.val.toNat < 2 ^ (8 * sz.bytes)

section
variable {sz : Size} {v : Long}

theorem low_of_fits (h : v.toNat < 2 ^ (8 * sz.bytes)) : low sz v = v.toNat := Nat.mod_eq_of_lt h

theorem cut_of_fits (h : v.toNat < 2 ^ (8 * sz.bytes)) : cut sz v = v := by
  rw [cut_eq_ofNat, low_of_fits h, BitVec.ofNat_toNat, BitVec.setWidth_eq]

/-- A bit shifted in at the low end. -/
theorem shiftIn_left (sz : Size) (v : Long) (b : Bool) :
    cut sz ((v <<< 1) ||| BitVec.ofNat 32 b.toNat) = BitVec.ofNat 32 (low sz (v <<< 1) + b.toNat) := by
  have hb : b.toNat < 2 := b.toNat_lt
  have hv : (v <<< 1).toNat = 2 ^ 1 * (v.toNat % 2 ^ 31) := by
    rw [BitVec.toNat_shiftLeft, Nat.shiftLeft_eq]
    omega
  have hor : ((v <<< 1) ||| BitVec.ofNat 32 b.toNat).toNat = 2 ^ 1 * (v.toNat % 2 ^ 31) + b.toNat := by
    rw [BitVec.toNat_or, hv, BitVec.toNat_ofNat, Nat.mod_eq_of_lt (show b.toNat < 2 ^ 32 by omega),
      Nat.two_pow_add_eq_or_of_lt hb]
  rw [cut_eq_ofNat, low, low, hor, hv]
  congr 1
  cases sz <;> simp only [Size.bytes] <;> omega

/-- A bit shifted in at the high end of the size. -/
theorem shiftIn_right (h : v.toNat < 2 ^ (8 * sz.bytes)) (b : Bool) :
    (v >>> 1) ||| BitVec.ofNat 32 (b.toNat <<< (bits sz - 1)) =
      BitVec.ofNat 32 (v.toNat / 2 + b.toNat * 2 ^ (8 * sz.bytes - 1)) := by
  have hb : b.toNat < 2 := b.toNat_lt
  have hv : v.toNat / 2 < 2 ^ (8 * sz.bytes - 1) := by
    cases sz <;> simp only [Size.bytes] at h ⊢ <;> omega
  have hm : 2 ^ (8 * sz.bytes - 1) * b.toNat < 2 ^ 32 := by
    cases sz <;> simp only [Size.bytes] <;> omega
  have hor := Nat.two_pow_add_eq_or_of_lt hv b.toNat
  have hlt : 2 ^ (8 * sz.bytes - 1) * b.toNat ||| v.toNat / 2 < 2 ^ 32 := Nat.or_lt_two_pow hm (by omega)
  apply BitVec.eq_of_toNat_eq
  rw [BitVec.toNat_or, BitVec.toNat_ushiftRight, BitVec.toNat_ofNat, BitVec.toNat_ofNat, Nat.shiftRight_eq_div_pow,
    Nat.shiftLeft_eq, bits, Nat.mul_comm b.toNat, Nat.mod_eq_of_lt hm, Nat.add_comm, hor, Nat.mod_eq_of_lt hlt, Nat.or_comm]

end

section
variable {kind : ShiftKind} {dir : ShiftDir} {sz : Size} {st : Shifting}

theorem out_shiftStep (h : st.Fits sz) : (shiftStep kind dir sz st).out = shiftOne kind dir sz st.out := by
  cases kind <;> cases dir <;>
    simp only [shiftStep, Shifting.out, signBit_eq_msb, shiftIn_left, shiftIn_right h] <;> rfl

theorem fits_shiftStep (h : st.Fits sz) : (shiftStep kind dir sz st).Fits sz := by
  cases dir with
  | left =>
    have hc : (shiftStep kind .left sz st).val = cut sz (shiftStep kind .left sz st).val := (cut_cut ..).symm
    rw [Shifting.Fits, hc, cut_toNat]
    exact low_lt ..
  | right =>
    have hv : st.val.toNat / 2 < 2 ^ (8 * sz.bytes - 1) := by
      have : st.val.toNat < 2 ^ (8 * sz.bytes) := h
      cases sz <;> simp only [Size.bytes] at this ⊢ <;> omega
    have hstep (b : Bool) : st.val.toNat / 2 + b.toNat * 2 ^ (8 * sz.bytes - 1) < 2 ^ (8 * sz.bytes) := by
      have : b.toNat < 2 := b.toNat_lt
      cases sz <;> simp only [Size.bytes] at hv ⊢ <;> omega
    simp only [Shifting.Fits, shiftStep, shiftIn_right h, BitVec.toNat_ofNat]
    exact Nat.lt_of_le_of_lt (Nat.mod_le ..) (hstep _)

/-! ### The loop -/

theorem shiftLoop_succ (k : Nat) (st : Shifting) :
    shiftLoop kind dir sz (k + 1) st = shiftStep kind dir sz (shiftLoop kind dir sz k st) := by
  induction k generalizing st with
  | zero => rfl
  | succ k ih => exact ih (shiftStep kind dir sz st)

theorem fits_shiftLoop (h : st.Fits sz) (k : Nat) : (shiftLoop kind dir sz k st).Fits sz := by
  induction k with
  | zero => exact h
  | succ k ih =>
    rw [shiftLoop_succ]
    exact fits_shiftStep ih

theorem out_shiftLoop (h : st.Fits sz) (k : Nat) :
    (shiftLoop kind dir sz k st).out = shiftMany kind dir sz k st.out := by
  induction k with
  | zero => rfl
  | succ k ih => rw [shiftLoop_succ, out_shiftStep (fits_shiftLoop h k), ih, shiftMany]

end

/-! ### `shiftp` -/

/-- The loop's start (46 R1002). -/
def shiftStart (kind : ShiftKind) (sz : Size) (v : Long) (x : Bool) : Shifting :=
  { val := cut sz v, x := x, c := kind == .rox && x, v := false }

theorem fits_shiftStart (kind : ShiftKind) (sz : Size) (v : Long) (x : Bool) : (shiftStart kind sz v x).Fits sz := by
  rw [Shifting.Fits, shiftStart, cut_toNat]
  exact low_lt ..

theorem out_shiftStart (kind : ShiftKind) (dir : ShiftDir) (sz : Size) (v : Long) (x : Bool) (k : Nat) :
    (shiftLoop kind dir sz k (shiftStart kind sz v x)).out = shiftBy kind dir sz k v x := by
  rw [out_shiftLoop (fits_shiftStart ..), shiftBy, ← cut_eq_ofNat]
  rfl

theorem shiftp_fst (kind : ShiftKind) (dir : ShiftDir) (v : Long) (k : Nat) (sz : Size) (sr : Word) :
    (shiftp kind dir v k sz sr).1 = (shiftBy kind dir sz k v (sr.getLsbD 4)).val := by
  rw [← out_shiftStart]
  rfl

theorem shiftp_flags (kind : ShiftKind) (dir : ShiftDir) (v : Long) (k : Nat) (sz : Size) (sr : Word) :
    ShiftFlags (shiftp kind dir v k sz sr).2 sr sz (shiftBy kind dir sz k v (sr.getLsbD 4)) := by
  have hf := fits_shiftLoop (kind := kind) (dir := dir) (fits_shiftStart kind sz v (sr.getLsbD 4)) k
  rw [ShiftFlags, ← out_shiftStart, ← cut_beq_zero, ← signBit_eq_msb]
  change Ccr _ _ _ _ (cut sz (shiftLoop kind dir sz k (shiftStart kind sz v (sr.getLsbD 4))).val == 0) _ _
  rw [cut_of_fits hf]
  exact ccr_withXnzvc ..

section
variable {s : State} {kind : ShiftKind} {dir : ShiftDir}

theorem shiftsReg_of_exec {i : Size → ShiftCount → Fin 8 → Instr}
    (hi : ∀ sz k n, exec (i sz k n) s = .next (shiftD kind dir sz k n s)) : ShiftsReg s i kind dir := by
  intro sz n
  have h (k : ShiftCount) : ∃ sr, exec (i sz k n) s = .next (withSr ((Loc.dreg n).put s sz
      (shiftBy kind dir sz (shiftCount s k) s.m.d[n] (s.m.sr.getLsbD 4)).val) sr) ∧
      ShiftFlags sr s.m.sr sz (shiftBy kind dir sz (shiftCount s k) s.m.d[n] (s.m.sr.getLsbD 4)) := by
    refine ⟨_, ?_, shiftp_flags kind dir s.m.d[n] (shiftCount s k) sz s.m.sr⟩
    rw [hi, ← shiftp_fst]
    rfl
  have hq (q : Fin 8) : shiftCount s (.imm q) = if q.val = 0 then 8 else q.val := by
    revert q
    simp only [shiftCount]
    decide
  refine ⟨fun q => ?_, fun c => h (.reg c)⟩
  have h := h (.imm q)
  rw [hq] at h
  exact h

theorem shiftsMem_of_exec {i : Ea → Instr} (hi : ∀ ea, exec (i ea) s = finish (shiftEa kind dir ea s)) :
    ShiftsMem s i kind dir := fun ea =>
  modifiesEa_of_exec (hi ea) fun v => ⟨congrArg (cut .w) (shiftp_fst kind dir v 1 .w s.m.sr), shiftp_flags ..⟩

end

/-- Settles O28. -/
theorem m68kShifts : Obligations.M68kShifts := fun _ =>
  ⟨⟨shiftsReg_of_exec fun _ _ _ => rfl, shiftsReg_of_exec fun _ _ _ => rfl, shiftsReg_of_exec fun _ _ _ => rfl,
      shiftsReg_of_exec fun _ _ _ => rfl, shiftsReg_of_exec fun _ _ _ => rfl, shiftsReg_of_exec fun _ _ _ => rfl,
      shiftsReg_of_exec fun _ _ _ => rfl, shiftsReg_of_exec fun _ _ _ => rfl⟩,
    shiftsMem_of_exec fun _ => rfl, shiftsMem_of_exec fun _ => rfl, shiftsMem_of_exec fun _ => rfl,
    shiftsMem_of_exec fun _ => rfl, shiftsMem_of_exec fun _ => rfl, shiftsMem_of_exec fun _ => rfl,
    shiftsMem_of_exec fun _ => rfl, shiftsMem_of_exec fun _ => rfl⟩

/-! ### What the loop comes to -/

section
variable {sz : Size} {st : Shifting}

theorem low_shiftLeft_one (sz : Size) (v : Long) : low sz (v <<< 1) = v.toNat * 2 % 2 ^ (8 * sz.bytes) := by
  rw [low, BitVec.toNat_shiftLeft, Nat.shiftLeft_eq]
  cases sz <;> simp only [Size.bytes] <;> omega

theorem shiftLeft_val {kind : ShiftKind} (hk : kind = .as ∨ kind = .ls) (h : st.Fits sz) (k : Nat) :
    (shiftLoop kind .left sz k st).val.toNat = st.val.toNat * 2 ^ k % 2 ^ (8 * sz.bytes) := by
  have hstep (u : Shifting) : (shiftStep kind .left sz u).val.toNat = u.val.toNat * 2 % 2 ^ (8 * sz.bytes) := by
    have hv : (shiftStep kind .left sz u).val = cut sz ((u.val <<< 1) ||| BitVec.ofNat 32 false.toNat) := by
      rcases hk with rfl | rfl <;> rfl
    rw [hv, shiftIn_left, Bool.toNat_false, Nat.add_zero, ← cut_eq_ofNat, cut_toNat, low_shiftLeft_one]
  induction k with
  | zero => exact ((Nat.mod_eq_of_lt (Nat.lt_of_le_of_lt (Nat.le_of_eq (Nat.mul_one _)) h)).trans (Nat.mul_one _)).symm
  | succ k ih => rw [shiftLoop_succ, hstep, ih, Nat.mod_mul_mod, Nat.mul_assoc, Nat.pow_succ]

theorem shiftRight_val (h : st.Fits sz) (k : Nat) :
    (shiftLoop .ls .right sz k st).val.toNat = st.val.toNat / 2 ^ k := by
  induction k with
  | zero => exact (Nat.div_one _).symm
  | succ k ih =>
    have hstep {u : Shifting} (hu : u.Fits sz) : (shiftStep .ls .right sz u).val.toNat = u.val.toNat / 2 := by
      have hv := shiftIn_right hu false
      rw [Bool.toNat_false, Nat.zero_mul, Nat.add_zero] at hv
      refine (congrArg BitVec.toNat hv).trans ?_
      rw [BitVec.toNat_ofNat]
      omega
    rw [shiftLoop_succ, hstep (fits_shiftLoop h k), ih, Nat.div_div_eq_div_mul, Nat.pow_succ]

/-! The signed value of the low part of a size. -/

theorem extractLsb'_toNat (sz : Size) (v : Long) : (v.extractLsb' 0 (8 * sz.bytes)).toNat = low sz v := by
  rw [BitVec.extractLsb'_toNat, Nat.shiftRight_zero, low]

theorem wide_toInt (sz : Size) (v : Long) :
    (wide sz v).toInt = if 2 * low sz v < 2 ^ (8 * sz.bytes) then (low sz v : Int) else low sz v - 2 ^ (8 * sz.bytes) := by
  have hw : 8 * sz.bytes ≤ 32 := by cases sz <;> decide
  rw [wide, BitVec.toInt_signExtend_of_le hw, BitVec.toInt_eq_toNat_cond, extractLsb'_toNat]
  norm_cast

theorem msb_eq_decide (sz : Size) (v : Long) : msb sz v = decide (2 ^ (8 * sz.bytes) ≤ 2 * low sz v) := by
  have hm : msb sz v = (v.extractLsb' 0 (8 * sz.bytes)).msb := by
    rw [BitVec.msb_eq_getLsbD_last, BitVec.getLsbD_extractLsb', Nat.zero_add]
    cases sz <;> simp [msb, Size.bytes]
  rw [hm, BitVec.msb_eq_decide, extractLsb'_toNat]
  refine decide_eq_decide.2 ?_
  cases sz <;> simp only [Size.bytes] <;> omega

theorem shiftArithRight_val (h : st.Fits sz) (k : Nat) :
    (wide sz (shiftLoop .as .right sz k st).val).toInt = (wide sz st.val).toInt / 2 ^ k := by
  have hstep {u : Shifting} (hu : u.Fits sz) :
      (wide sz (shiftStep .as .right sz u).val).toInt = (wide sz u.val).toInt / 2 := by
    have hf : (shiftStep .as .right sz u).Fits sz := fits_shiftStep hu
    have hv : (shiftStep .as .right sz u).val =
        BitVec.ofNat 32 (u.val.toNat / 2 + (msb sz u.val).toNat * 2 ^ (8 * sz.bytes - 1)) := by
      rw [← shiftIn_right hu, ← signBit_eq_msb]
      rfl
    have hl := low_of_fits hf
    rw [wide_toInt, wide_toInt, hl, hv, BitVec.toNat_ofNat, low_of_fits hu, msb_eq_decide, low_of_fits hu]
    have hlt : u.val.toNat < 2 ^ (8 * sz.bytes) := hu
    by_cases hm : 2 ^ (8 * sz.bytes) ≤ 2 * u.val.toNat
    · rw [decide_eq_true hm, Bool.toNat_true]
      cases sz <;> simp only [Size.bytes] at hlt hm ⊢ <;> omega
    · rw [decide_eq_false hm, Bool.toNat_false]
      cases sz <;> simp only [Size.bytes] at hlt hm ⊢ <;> omega
  induction k with
  | zero => exact (Int.ediv_one _).symm
  | succ k ih =>
    rw [shiftLoop_succ, hstep (fits_shiftLoop h k), ih, Int.pow_succ, Int.ediv_ediv_of_nonneg (Int.pow_nonneg (by decide))]

/-! The bits of a rotate. -/

theorem ofNat_toNat_getLsbD (b : Bool) (i : Nat) : (BitVec.ofNat 32 b.toNat).getLsbD i = (b && decide (i = 0)) := by
  cases b with
  | false => simp
  | true => simp [BitVec.getLsbD_one]

theorem rotateLeft_step (u : Shifting) {i : Nat} (hi : i < 8 * sz.bytes) :
    (shiftStep .ro .left sz u).val.getLsbD i =
      if i = 0 then u.val.getLsbD (8 * sz.bytes - 1) else u.val.getLsbD (i - 1) := by
  have hv : (shiftStep .ro .left sz u).val = cut sz ((u.val <<< 1) ||| BitVec.ofNat 32 (signBit sz u.val).toNat) := rfl
  have h32 : i < 32 := by
    have := bytes_le_four sz
    omega
  rw [hv, cut_getLsbD, BitVec.getLsbD_or, BitVec.getLsbD_shiftLeft, ofNat_toNat_getLsbD, signBit_eq_msb, msb,
    decide_eq_true hi, decide_eq_true h32]
  by_cases h0 : i = 0
  · simp [h0]
  · simp [h0]

theorem rotateRight_step {u : Shifting} (hu : u.Fits sz) {i : Nat} (hi : i < 8 * sz.bytes) :
    (shiftStep .ro .right sz u).val.getLsbD i =
      if i = 8 * sz.bytes - 1 then u.val.getLsbD 0 else u.val.getLsbD (i + 1) := by
  have hv : (shiftStep .ro .right sz u).val =
      (u.val >>> 1) ||| BitVec.ofNat 32 ((u.val.getLsbD 0).toNat <<< (8 * sz.bytes - 1)) := rfl
  have hb : BitVec.ofNat 32 ((u.val.getLsbD 0).toNat <<< (8 * sz.bytes - 1)) =
      BitVec.ofNat 32 (u.val.getLsbD 0).toNat <<< (8 * sz.bytes - 1) := by
    apply BitVec.eq_of_toNat_eq
    rw [BitVec.toNat_ofNat, BitVec.toNat_shiftLeft, BitVec.toNat_ofNat, Nat.shiftLeft_eq, Nat.shiftLeft_eq, Nat.mod_mul_mod]
  have htop : u.val.getLsbD (8 * sz.bytes) = false := by
    rw [← cut_of_fits hu, cut_getLsbD, decide_eq_false (Nat.lt_irrefl _), Bool.and_false]
  have h32 : i < 32 := by
    have := bytes_le_four sz
    omega
  rw [hv, hb, BitVec.getLsbD_or, BitVec.getLsbD_ushiftRight, BitVec.getLsbD_shiftLeft, ofNat_toNat_getLsbD]
  by_cases h0 : i = 8 * sz.bytes - 1
  · have h1 : 1 + i = 8 * sz.bytes := by omega
    rw [if_pos h0, h1, htop, h0]
    simp
    omega
  · have h1 : i < 8 * sz.bytes - 1 := by omega
    rw [if_neg h0, Nat.add_comm]
    simp [h1]

theorem rotateLeft_getLsbD {k i : Nat} (hk : k ≤ 8 * sz.bytes) (hi : i < 8 * sz.bytes) :
    (shiftLoop .ro .left sz k st).val.getLsbD i = st.val.getLsbD ((i + (8 * sz.bytes - k)) % (8 * sz.bytes)) := by
  induction k generalizing i with
  | zero => rw [Nat.sub_zero, Nat.add_mod_right, Nat.mod_eq_of_lt hi, shiftLoop]
  | succ k ih =>
    rw [shiftLoop_succ, rotateLeft_step _ hi]
    by_cases h0 : i = 0
    · rw [if_pos h0, ih (by omega) (by omega), h0, show 8 * sz.bytes - 1 + (8 * sz.bytes - k) =
        0 + (8 * sz.bytes - (k + 1)) + 8 * sz.bytes by omega, Nat.add_mod_right]
    · rw [if_neg h0, ih (by omega) (by omega), show i - 1 + (8 * sz.bytes - k) = i + (8 * sz.bytes - (k + 1)) by omega]

theorem rotateRight_getLsbD (h : st.Fits sz) {k i : Nat} (hi : i < 8 * sz.bytes) :
    (shiftLoop .ro .right sz k st).val.getLsbD i = st.val.getLsbD ((i + k) % (8 * sz.bytes)) := by
  induction k generalizing i with
  | zero => rw [Nat.add_zero, Nat.mod_eq_of_lt hi, shiftLoop]
  | succ k ih =>
    rw [shiftLoop_succ, rotateRight_step (fits_shiftLoop h k) hi]
    by_cases h0 : i = 8 * sz.bytes - 1
    · rw [if_pos h0, ih (by omega), show i + (k + 1) = 0 + k + 8 * sz.bytes by omega, Nat.add_mod_right]
    · rw [if_neg h0, ih (by omega), show i + 1 + k = i + (k + 1) by omega]

/-- A rotate by the width gives the value back. -/
theorem rotate_width (dir : ShiftDir) (h : st.Fits sz) : (shiftLoop .ro dir sz (8 * sz.bytes) st).val = st.val := by
  have hf : (shiftLoop .ro dir sz (8 * sz.bytes) st).Fits sz := fits_shiftLoop h _
  rw [← cut_of_fits hf, ← cut_of_fits h]
  apply BitVec.eq_of_getLsbD_eq
  intro i _
  rw [cut_getLsbD, cut_getLsbD]
  by_cases hi : i < 8 * sz.bytes
  · cases dir with
    | left => rw [rotateLeft_getLsbD (Nat.le_refl _) hi, Nat.sub_self, Nat.add_zero, Nat.mod_eq_of_lt hi]
    | right => rw [rotateRight_getLsbD h hi, Nat.add_mod_right, Nat.mod_eq_of_lt hi]
  · rw [decide_eq_false hi, Bool.and_false, Bool.and_false]

end

/-- Settles O29. -/
theorem m68kShiftValues : Obligations.M68kShiftValues := by
  intro sz v cnt sr w after
  have hf (kind : ShiftKind) := fits_shiftStart kind sz v (sr.getLsbD 4)
  have hlow (kind : ShiftKind) : (shiftStart kind sz v (sr.getLsbD 4)).val.toNat = low sz v := cut_toNat ..
  refine ⟨fun kind hk => ?_, ?_, ?_, fun dir => ?_⟩
  · rw [← hlow kind]
    exact shiftLeft_val hk (hf kind) cnt
  · rw [← hlow .ls]
    exact shiftRight_val (hf .ls) cnt
  · have hw : wide sz (cut sz v) = wide sz v := by
      rw [wide, extractLsb'_cut sz v (Nat.le_of_eq (Nat.zero_add _)), wide]
    rw [← hw]
    exact shiftArithRight_val (hf .as) cnt
  · rw [← hlow .ro]
    exact congrArg BitVec.toNat (rotate_width dir (hf .ro))

end Sys2Proof.Machine
end

section
/-! PROOFS. The 68000's products and quotients, its decimal instructions, and its trap-generating instructions
(45_m68k_data_arith.md section 6, 46_m68k_logic_shift_bit.md section 5, 47_m68k_control_system.md section 4). -/

namespace Sys2Proof.Machine

open Sys2Proof.Claims

/-! ### Values, and flags of any value -/

/-- What is read at a size has no bit above it. -/
theorem value_lt (l : Loc) (s : State) (sz : Size) : (l.value s sz).toNat < 2 ^ (8 * sz.bytes) := by
  have hcut (v : Long) : (v &&& sizeMask sz).toNat < 2 ^ (8 * sz.bytes) :=
    Nat.lt_of_le_of_lt (Nat.le_of_eq (cut_toNat sz v)) (low_lt sz v)
  cases l with
  | dreg n => exact hcut _
  | areg n => exact hcut _
  | imm v => exact hcut _
  | mem a =>
    have hext {n : Nat} (x : BitVec n) : (x.zeroExtend 32).toNat < 2 ^ n := by
      rw [BitVec.toNat_setWidth]
      exact Nat.lt_of_le_of_lt (Nat.mod_le ..) x.isLt
    cases sz with
    | b => exact hext _
    | w => exact hext _
    | l => exact BitVec.isLt _

/-- N and Z of any value, V and C given. -/
theorem ccr_withNzvc_anyNz (sr : Word) (n z v c : Bool) :
    Ccr (withNzvc sr n z v c) sr (sr.getLsbD 4) ((withNzvc sr n z v c).getLsbD 3) ((withNzvc sr n z v c).getLsbD 2) v c := by
  obtain ⟨hx, -, -, hv, hc, hk⟩ := ccr_withNzvc sr n z v c
  exact ⟨hx, rfl, rfl, hv, hc, hk⟩

theorem supervisorSp_withNzvc (s : State) (n z v c : Bool) :
    supervisorSp (setSr s (withNzvc s.m.sr n z v c)) = supervisorSp s := by
  have h : (withNzvc s.m.sr n z v c).getLsbD 13 = s.m.sr.getLsbD 13 :=
    getLsbD_of_ushiftRight_eq (withNzvc_ushiftRight ..) (by decide)
  simp only [supervisorSp, setSr, State.setM, h]

section
variable {s : State} {i : Instr} {sz : Size} {pw : Long} {ea : Ea}

/-- `readsEa_of_exec`, with the value known to be one of its size. -/
theorem readsEa_of_exec_lt {k : Long × State → Except Fault State} {res : State → Long → State} {fl : Word → Long → Prop}
    (hi : exec i s = finish (loadEa s sz pw ea >>= k))
    (hk : ∀ v : Long, v.toNat < 2 ^ (8 * sz.bytes) →
      ∃ sr, k (v, sideOf s sz pw ea) = .ok (withSr (res (sideOf s sz pw ea) v) sr) ∧ fl sr v) :
    ReadsEa s i sz pw ea res fl := by
  intro hr
  obtain ⟨sr, he, hf⟩ := hk ((locOf s sz pw ea).value (sideOf s sz pw ea) sz) (value_lt ..)
  refine ⟨sr, ?_, hf⟩
  rw [hi, loadEa_reachable hr]
  exact congrArg finish he

end

/-! ### Products -/

theorem product_eq {s u : State} (n : Fin 8) (r : Long) (hu : u.m.sr = s.m.sr) :
    ∃ sr, product u n r = withSr { u with m := { u.m with d := u.m.d.set n r } } sr ∧ MoveFlags sr s.m.sr .l r := by
  refine ⟨_, rfl, ?_⟩
  have h := moveFlags_flags s.m.sr .l r
  rw [moveFlags, cut_long] at h
  rw [hu]
  exact h

theorem m68kMultiply : Claims.M68kMultiply := by
  intro s ea n d signed multiplies
  constructor
  · refine readsEa_of_exec_lt rfl fun v hv => ?_
    obtain ⟨sr, he, hf⟩ := product_eq n (BitVec.ofNat 32 (low .w d * low .w v)) (sideOf_sr s .w (s.m.pc0 + 2) ea)
    refine ⟨sr, (congrArg Except.ok ?_).trans (congrArg Except.ok he), hf⟩
    have hd : getD (sideOf s .w (s.m.pc0 + 2) ea) n = d := sideOf_d ..
    change product _ n (BitVec.ofNat 32 ((cut .w (getD _ n)).toNat * v.toNat)) = _
    rw [hd, cut_toNat, low_of_fits hv]
  · refine readsEa_of_exec rfl fun v => ?_
    obtain ⟨sr, he, hf⟩ := product_eq n (BitVec.ofInt 32 (signed d * signed v)) (sideOf_sr s .w (s.m.pc0 + 2) ea)
    refine ⟨sr, (congrArg Except.ok ?_).trans (congrArg Except.ok he), hf⟩
    have hd : getD (sideOf s .w (s.m.pc0 + 2) ea) n = d := sideOf_d ..
    change product _ n (BitVec.ofInt 32 (signedWord (getD _ n) * signedWord v)) = _
    rw [hd]
    rfl

/-! ### Quotients -/

theorem quotient_eq {s u : State} (n : Fin 8) (q rem : Word) (hu : u.m.sr = s.m.sr) :
    ∃ sr, quotient u n q rem = withSr { u with m := { u.m with d := u.m.d.set n (rem ++ q) } } sr ∧
      Ccr sr s.m.sr (s.m.sr.getLsbD 4) (q.getLsbD 15) (q == 0) false false := by
  refine ⟨_, rfl, ?_⟩
  rw [← hu]
  exact ccr_withNzvc ..

theorem divideOverflow_eq {s u : State} (hu : u.m.sr = s.m.sr) (hd : u.draws = s.draws) :
    ∃ sr, divideOverflow u = { withSr u sr with draws := s.draws + 2 } ∧
      Ccr sr s.m.sr (s.m.sr.getLsbD 4) (sr.getLsbD 3) (sr.getLsbD 2) true false := by
  rw [← hu, ← hd]
  exact ⟨_, rfl, ccr_withNzvc_anyNz ..⟩

theorem divideByZero_eq {s u : State} (hu : u.m.sr = s.m.sr) (hd : u.draws = s.draws) (hp : u.m.pc = s.m.pc)
    (he : isEven (supervisorSp u) = true) :
    ∃ sr, divideByZero u = .ok (afterException { withSr u sr with draws := s.draws + 3 } 0x14 s.m.pc) ∧
      Ccr sr s.m.sr (s.m.sr.getLsbD 4) (sr.getLsbD 3) (sr.getLsbD 2) (sr.getLsbD 1) false := by
  rw [← hu, ← hd, ← hp]
  have ht (n z v : Bool) : takeException { setSr u (withNzvc u.m.sr n z v false) with draws := u.draws + 3 } 0x14 u.m.pc =
      .ok (afterException { setSr u (withNzvc u.m.sr n z v false) with draws := u.draws + 3 } 0x14 u.m.pc) :=
    takeException_ok _ _ _ ((congrArg (·.getLsbD 0) (supervisorSp_withNzvc u n z v false)).trans (isEven_eq_true he)) (by decide)
  refine ⟨_, ht _ _ _, ?_⟩
  obtain ⟨hx, -, -, -, hc, hk⟩ := ccr_withNzvc u.m.sr (Config.freeBit u.draws) (Config.freeBit (u.draws + 1))
    (Config.freeBit (u.draws + 1 + 1)) false
  exact ⟨hx, rfl, rfl, rfl, hc, hk⟩

section
variable {s : State} {ea : Ea} {n : Fin 8}

/-- The operand of a division. -/
def divisor (s : State) (ea : Ea) : Word :=
  ((locOf s .w (s.m.pc0 + 2) ea).value (sideOf s .w (s.m.pc0 + 2) ea) .w).extractLsb' 0 16

theorem divisor_toNat (s : State) (ea : Ea) :
    ((locOf s .w (s.m.pc0 + 2) ea).value (sideOf s .w (s.m.pc0 + 2) ea) .w).toNat = (divisor s ea).toNat :=
  ((extractLsb'_toNat .w _).trans (low_of_fits (value_lt ..))).symm

theorem execDivu_eq (hr : (locOf s .w (s.m.pc0 + 2) ea).reachable .w = true) :
    exec (.divu ea n) s = finish (
      let u := sideOf s .w (s.m.pc0 + 2) ea
      let d := s.m.d[n].toNat
      let v := (divisor s ea).toNat
      if v = 0 then divideByZero u
      else if d / v > 0xFFFF then .ok (divideOverflow u)
      else .ok (quotient u n (BitVec.ofNat 16 (d / v)) (BitVec.ofNat 16 (d % v)))) := by
  change execDivu ea n s = _
  rw [execDivu, firstExt, loadEa_reachable hr, ← divisor_toNat, ← sideOf_d s .w (s.m.pc0 + 2) ea n]
  rfl

theorem execDivs_eq (hr : (locOf s .w (s.m.pc0 + 2) ea).reachable .w = true) :
    exec (.divs ea n) s = finish (
      let u := sideOf s .w (s.m.pc0 + 2) ea
      let d := s.m.d[n].toInt
      let v := (divisor s ea).toInt
      if v = 0 then divideByZero u
      else if d.tdiv v < -32768 ∨ d.tdiv v > 32767 then .ok (divideOverflow u)
      else .ok (quotient u n (BitVec.ofInt 16 (d.tdiv v)) (BitVec.ofInt 16 (d - d.tdiv v * v)))) := by
  change execDivs ea n s = _
  rw [execDivs, firstExt, loadEa_reachable hr, ← sideOf_d s .w (s.m.pc0 + 2) ea n]
  rfl

end

theorem m68kDivide : Claims.M68kDivide := by
  intro s ea n l u v d x fits overflows traps q hr
  have hsr : u.m.sr = s.m.sr := sideOf_sr ..
  have hdr : u.draws = s.draws := resolve_draws ..
  have hpc : u.m.pc = s.m.pc := resolve_pc ..
  have hu : exec (.divu ea n) s = finish (if v.toNat = 0 then divideByZero u
      else if d.toNat / v.toNat > 0xFFFF then .ok (divideOverflow u)
      else .ok (quotient u n (BitVec.ofNat 16 (d.toNat / v.toNat)) (BitVec.ofNat 16 (d.toNat % v.toNat)))) := execDivu_eq hr
  have hs : exec (.divs ea n) s = finish (if v.toInt = 0 then divideByZero u
      else if q < -32768 ∨ q > 32767 then .ok (divideOverflow u)
      else .ok (quotient u n (BitVec.ofInt 16 q) (BitVec.ofInt 16 (d.toInt - q * v.toInt)))) := execDivs_eq hr
  have hv0 : v ≠ 0 → v.toNat ≠ 0 := fun h h0 => h (BitVec.eq_of_toNat_eq h0)
  have hi0 : v ≠ 0 → v.toInt ≠ 0 := fun h h0 => h (BitVec.eq_of_toInt_eq h0)
  refine ⟨fun hv hq => ?_, fun hv hq => ?_, fun hv hl hh => ?_, fun hv hq => ?_, fun hv he => ?_⟩
  · obtain ⟨sr, hr, hf⟩ := quotient_eq n (BitVec.ofNat 16 (d.toNat / v.toNat)) (BitVec.ofNat 16 (d.toNat % v.toNat)) hsr
    refine ⟨sr, ?_, hf⟩
    rw [hu, ← hr]
    rw [if_neg (hv0 hv), if_neg (Nat.not_lt.2 hq)]
    rfl
  · obtain ⟨sr, hr, hf⟩ := divideOverflow_eq hsr hdr
    refine ⟨sr, ?_, hf⟩
    rw [hu, ← hr]
    rw [if_neg (hv0 hv), if_pos hq]
    rfl
  · obtain ⟨sr, hr, hf⟩ := quotient_eq n (BitVec.ofInt 16 q) (BitVec.ofInt 16 (d.toInt - q * v.toInt)) hsr
    refine ⟨sr, ?_, hf⟩
    rw [hs, ← hr]
    rw [if_neg (hi0 hv), if_neg (show ¬ (q < -32768 ∨ q > 32767) by omega)]
    rfl
  · obtain ⟨sr, hr, hf⟩ := divideOverflow_eq hsr hdr
    refine ⟨sr, ?_, hf⟩
    rw [hs, ← hr]
    rw [if_neg (hi0 hv), if_pos hq]
    rfl
  · obtain ⟨sr, hr, hf⟩ := divideByZero_eq hsr hdr hpc he
    constructor
    · refine ⟨sr, ?_, hf⟩
      rw [hu, hv]
      exact congrArg finish hr
    · refine ⟨sr, ?_, hf⟩
      rw [hs, hv]
      exact congrArg finish hr

/-- Settles O26. -/
theorem m68kMulDiv : Obligations.M68kMulDiv := ⟨m68kMultiply, m68kDivide⟩

end Sys2Proof.Machine
end

section
/-! PROOFS. The 68000's decimal instructions and its trap-generating instructions (46_m68k_logic_shift_bit.md section 5,
47_m68k_control_system.md section 4). -/

namespace Sys2Proof.Machine

open Sys2Proof.Claims

/-! ### Decimal arithmetic -/

theorem high_digit_toNat (v : Byte) : (v &&& 0xF0).toNat = v.toNat - v.toNat % 16 := by
  revert v; decide

theorem low_digit0_toNat (v : Byte) : (v &&& 0x0F).toNat = v.toNat % 16 := low_digit_toNat v

theorem abcd8_eq_decAdd (s d : Byte) (x : Bool) : abcd8 s d x = decAdd s d x := by
  simp only [abcd8, decAdd, high_digit_toNat, low_digit0_toNat]

theorem sbcd8_eq_decSub (s d : Byte) (x : Bool) : sbcd8 s d x = decSub s d x := by
  simp only [sbcd8, decSub, high_digit_toNat, low_digit0_toNat]

/-- SR and the two draws after a decimal operation. -/
theorem bcdDone_eq {s u : State} (r : Byte) (c : Bool) (hu : u.m.sr = s.m.sr) (hd : u.draws = s.draws) :
    ∃ sr, bcdDone u r c = { withSr u sr with draws := s.draws + 2 } ∧ DecFlags16 sr s.m.sr r c := by
  rw [← hu, ← hd]
  obtain ⟨hx, -, hz, -, hc, hk⟩ := ccr_withXnzvc u.m.sr c (Config.freeBit u.draws) (r == 0 && srZ u.m.sr)
    (Config.freeBit (u.draws + 1)) c
  exact ⟨_, rfl, hx, rfl, hz, rfl, hc, hk⟩

theorem sideOf_draws (s : State) (sz : Size) (pw : Long) (ea : Ea) : (sideOf s sz pw ea).draws = s.draws := resolve_draws ..

/-- A byte operand resolved, read, and written back with the flags of a decimal operation. -/
def bcdAt (g : Word → Long → Byte × Bool) (u : State) (pw : Long) (ea : Ea) : Except Fault State := do
  let (l, t) := resolve u .b pw ea
  let v ← readLoc t .b l
  let r := g t.m.sr v
  let t ← writeLoc t .b l (r.1.zeroExtend 32)
  return bcdDone t r.1 r.2

theorem bcdAt_eq {s u : State} (g : Word → Long → Byte × Bool) (pw : Long) (ea : Ea) (hu : u.m.sr = s.m.sr)
    (hd : u.draws = s.draws) :
    let r := g s.m.sr ((locOf u .b pw ea).value (sideOf u .b pw ea) .b)
    ∃ sr, bcdAt g u pw ea = .ok { withSr ((locOf u .b pw ea).put (sideOf u .b pw ea) .b (r.1.zeroExtend 32)) sr with
        draws := s.draws + 2 } ∧ DecFlags16 sr s.m.sr r.1 r.2 := by
  intro r
  have hsr : (sideOf u .b pw ea).m.sr = s.m.sr := (sideOf_sr ..).trans hu
  obtain ⟨sr, he, hf⟩ := bcdDone_eq (s := s) (u := (locOf u .b pw ea).put (sideOf u .b pw ea) .b (r.1.zeroExtend 32)) r.1 r.2
    ((Loc.put_sr ..).trans hsr) ((Loc.put_draws ..).trans ((sideOf_draws ..).trans hd))
  refine ⟨sr, ?_, hf⟩
  have hg : g (sideOf u .b pw ea).m.sr ((locOf u .b pw ea).value (sideOf u .b pw ea) .b) = r := by rw [hsr]
  rw [← he, ← hg, bcdAt]
  change (readLoc (sideOf u .b pw ea) .b (locOf u .b pw ea) >>= _) = _
  rw [readLoc_ok _ _ _ (reachable_byte _)]
  change (writeLoc (sideOf u .b pw ea) .b (locOf u .b pw ea) _ >>= _) = _
  rw [writeLoc_ok _ _ _ _ (reachable_byte _)]
  rfl

theorem decimal_of_exec {s : State} {i : XForm → Fin 8 → Fin 8 → Instr} {op op' : Byte → Byte → Bool → Byte × Bool}
    (hop : op = op') (hi : ∀ f y x, exec (i f y x) s = finish (bcdBinary op f y x s)) : Decimal s i op' := by
  subst hop
  intro y x
  constructor
  · obtain ⟨sr, he, hf⟩ := bcdDone_eq (s := s)
      (u := setDsz s x .b ((op (lowByte s.m.d[y]) (lowByte s.m.d[x]) (s.m.sr.getLsbD 4)).1.zeroExtend 32))
      (op (lowByte s.m.d[y]) (lowByte s.m.d[x]) (s.m.sr.getLsbD 4)).1
      (op (lowByte s.m.d[y]) (lowByte s.m.d[x]) (s.m.sr.getLsbD 4)).2 rfl rfl
    exact ⟨sr, (hi ..).trans (congrArg Host.Outcome.next he), hf⟩
  · obtain ⟨sr, he, hf⟩ := bcdAt_eq (s := s) (u := sideOf s .b 0 (.preDec y))
      (fun sr d => op (lowByte ((locOf s .b 0 (.preDec y)).value (sideOf s .b 0 (.preDec y)) .b)) (lowByte d) (sr.getLsbD 4))
      0 (.preDec x) (sideOf_sr ..) (sideOf_draws ..)
    refine ⟨sr, ?_, hf⟩
    rw [hi, bcdBinary, loadEa_reachable (reachable_byte _)]
    exact congrArg finish he

theorem m68kDecimal : Claims.M68kDecimal := by
  intro s
  have ha : abcd8 = decAdd := funext fun a => funext fun b => funext (abcd8_eq_decAdd a b)
  have hs : sbcd8 = decSub := funext fun a => funext fun b => funext (sbcd8_eq_decSub a b)
  refine ⟨decimal_of_exec ha fun _ _ _ => rfl, decimal_of_exec hs fun _ _ _ => rfl, fun ea => ?_⟩
  rw [← hs]
  obtain ⟨sr, he, hf⟩ := bcdAt_eq (s := s) (u := s) (fun sr d => sbcd8 (lowByte d) 0 (sr.getLsbD 4)) (s.m.pc0 + 2) ea rfl rfl
  exact ⟨sr, congrArg finish he, hf⟩

theorem bcdOf_toNat (k : Fin 100) : (bcdOf k).toNat = k.val / 10 * 16 + k.val % 10 := by
  rw [bcdOf, BitVec.toNat_ofNat]
  omega

theorem bcdOf_low (k : Fin 100) : (bcdOf k).toNat % 16 = k.val % 10 := by
  rw [bcdOf_toNat]
  omega

theorem bcdOf_high (k : Fin 100) : (bcdOf k).toNat - (bcdOf k).toNat % 16 = k.val / 10 * 16 := by
  rw [bcdOf_toNat]
  omega

/-- A byte of the two decimal digits `t` and `u`. -/
theorem ofInt_eq_bcdOf {r : Int} {k : Nat} (t u : Nat) (hk : k = 10 * t + u) (hu : u < 10) (h : r = t * 16 + u) :
    BitVec.ofInt 8 r = bcdOf k := by
  have ht : k / 10 = t := by omega
  have hm : k % 10 = u := by omega
  have hr : r = ((t * 16 + u : Nat) : Int) := by omega
  rw [bcdOf, ht, hm, hr, BitVec.ofInt_natCast]

theorem decAdd_digits (a b : Fin 100) (x : Bool) :
    decAdd (bcdOf a) (bcdOf b) x = (bcdOf ((a.val + b.val + x.toNat) % 100), decide (a.val + b.val + x.toNat ≥ 100)) := by
  have hx : x.toNat < 2 := x.toNat_lt
  simp only [decAdd]
  rw [bcdOf_high, bcdOf_high, bcdOf_low, bcdOf_low]
  by_cases h1 : ((a.val % 10 : Nat) : Int) + (b.val % 10 : Nat) + x.toNat > 9
  · rw [if_pos h1]
    split
    · refine Prod.ext (ofInt_eq_bcdOf (a / 10 + b / 10 + 1 - 10) (a % 10 + b % 10 + x.toNat - 10) ?_ ?_ ?_)
        (decide_eq_true ?_).symm <;> omega
    · refine Prod.ext (ofInt_eq_bcdOf (a / 10 + b / 10 + 1) (a % 10 + b % 10 + x.toNat - 10) ?_ ?_ ?_)
        (decide_eq_false ?_).symm <;> omega
  · rw [if_neg h1]
    split
    · refine Prod.ext (ofInt_eq_bcdOf (a / 10 + b / 10 - 10) (a % 10 + b % 10 + x.toNat) ?_ ?_ ?_)
        (decide_eq_true ?_).symm <;> omega
    · refine Prod.ext (ofInt_eq_bcdOf (a / 10 + b / 10) (a % 10 + b % 10 + x.toNat) ?_ ?_ ?_)
        (decide_eq_false ?_).symm <;> omega

theorem decSub_digits (a b : Fin 100) (x : Bool) :
    decSub (bcdOf a) (bcdOf b) x =
      (bcdOf ((b.val + 100 - a.val - x.toNat) % 100), decide (a.val + x.toNat > b.val)) := by
  have hx : x.toNat < 2 := x.toNat_lt
  simp only [decSub]
  rw [bcdOf_high, bcdOf_high, bcdOf_low, bcdOf_low]
  by_cases h1 : ((b.val % 10 : Nat) : Int) - (a.val % 10 : Nat) - x.toNat < 0 ∨ ((b.val % 10 : Nat) : Int) - (a.val % 10 : Nat) - x.toNat > 9
  · rw [if_pos h1]
    split
    · refine Prod.ext (ofInt_eq_bcdOf (b / 10 + 9 - a / 10) (b % 10 + 10 - a % 10 - x.toNat) ?_ ?_ ?_)
        (decide_eq_true ?_).symm <;> omega
    · refine Prod.ext (ofInt_eq_bcdOf (b / 10 - 1 - a / 10) (b % 10 + 10 - a % 10 - x.toNat) ?_ ?_ ?_)
        (decide_eq_false ?_).symm <;> omega
  · rw [if_neg h1]
    split
    · refine Prod.ext (ofInt_eq_bcdOf (b / 10 + 10 - a / 10) (b % 10 - a % 10 - x.toNat) ?_ ?_ ?_)
        (decide_eq_true ?_).symm <;> omega
    · refine Prod.ext (ofInt_eq_bcdOf (b / 10 - a / 10) (b % 10 - a % 10 - x.toNat) ?_ ?_ ?_)
        (decide_eq_false ?_).symm <;> omega

theorem decimalDigits : Claims.DecimalDigits := by
  intro a b x
  rw [abcd8_eq_decAdd, sbcd8_eq_decSub]
  exact ⟨decAdd_digits a b x, decSub_digits a b x⟩

/-- Settles O30. -/
theorem m68kDecimals : Obligations.M68kDecimals := ⟨m68kDecimal, decimalDigits⟩

/-! ### Traps -/

section
variable {s : State} {i : Instr}

theorem finish_takeException {off : Nat} {pc : Long} (he : isEven (supervisorSp s) = true) (ho : off % 4 = 0)
    (hi : exec i s = finish (takeException s off pc)) : exec i s = .next (afterException s off pc) := by
  rw [hi, takeException_ok s off pc (isEven_eq_true he) (ofNat_even_of_mod_four ho)]
  rfl

theorem execTrap_eq {v : Fin 16} (hv : v.val < 15) :
    exec (.trap v) s = finish (takeException s (0x80 + 4 * v.val) s.m.pc) := by
  have ho : trapVectorOffset (v.val + 1) = .ok (0x80 + 4 * v.val) := by
    rw [trapVectorOffset, if_neg (by omega)]
    rfl
  change execTrap v s = _
  rw [execTrap, ho]
  rfl

theorem m68kTraps : Claims.M68kTraps := by
  intro s v w
  refine ⟨rfl, fun hv => ?_, fun he => ⟨fun hv => finish_takeException he (by omega) (execTrap_eq hv), fun hv => ?_,
    finish_takeException he rfl rfl, finish_takeException he rfl rfl, finish_takeException he rfl rfl⟩⟩
  · exact if_neg (by rw [srV, hv]; decide)
  · exact finish_takeException he rfl (if_pos hv)

/-- N given, Z, V and C of any value. -/
theorem ccr_withNzvc_anyZvc (sr : Word) (n z v c : Bool) :
    Ccr (withNzvc sr n z v c) sr (sr.getLsbD 4) n ((withNzvc sr n z v c).getLsbD 2) ((withNzvc sr n z v c).getLsbD 1)
      ((withNzvc sr n z v c).getLsbD 0) := by
  obtain ⟨hx, hn, -, -, -, hk⟩ := ccr_withNzvc sr n z v c
  exact ⟨hx, hn, rfl, rfl, rfl, hk⟩

/-- The state in which CHK has drawn its flags and traps. -/
def chkTraps (u : State) (neg : Bool) : State :=
  let sr := withNzvc u.m.sr neg (Config.freeBit u.draws) (Config.freeBit (u.draws + 1)) (Config.freeBit (u.draws + 1 + 1))
  { withSr u sr with draws := u.draws + 3 }

/-- The state after a CHK in bounds. -/
def chkPasses (u : State) : State :=
  let sr := withNzvc u.m.sr (Config.freeBit (u.draws + 1 + 1 + 1)) (Config.freeBit u.draws) (Config.freeBit (u.draws + 1))
    (Config.freeBit (u.draws + 1 + 1))
  { withSr u sr with draws := u.draws + 4 }

theorem execChk_eq {ea : Ea} {n : Fin 8} (hr : (locOf s .w (s.m.pc0 + 2) ea).reachable .w = true) :
    exec (.chk ea n) s = finish (
      let u := sideOf s .w (s.m.pc0 + 2) ea
      let d := (s.m.d[n].extractLsb' 0 16 : Word).toInt
      if d < 0 then takeException (chkTraps u true) 0x18 u.m.pc
      else if d > (divisor s ea).toInt then takeException (chkTraps u false) 0x18 u.m.pc
      else .ok (chkPasses u)) := by
  change execChk ea n s = _
  rw [execChk, firstExt, loadEa_reachable hr, ← sideOf_d s .w (s.m.pc0 + 2) ea n]
  rfl

theorem m68kChk : Claims.M68kChk := by
  intro s ea n l u bound d any traps hr
  have hsr : u.m.sr = s.m.sr := sideOf_sr ..
  have hdr : u.draws = s.draws := sideOf_draws ..
  have hpc : u.m.pc = s.m.pc := resolve_pc ..
  have hx : exec (.chk ea n) s = finish (if d < 0 then takeException (chkTraps u true) 0x18 u.m.pc
      else if d > bound then takeException (chkTraps u false) 0x18 u.m.pc else .ok (chkPasses u)) := execChk_eq hr
  have htraps (neg : Bool) (he : isEven (supervisorSp u) = true)
      (hi : exec (.chk ea n) s = finish (takeException (chkTraps u neg) 0x18 u.m.pc)) : traps neg := by
    have ht := takeException_ok (chkTraps u neg) 0x18 u.m.pc
      ((congrArg (·.getLsbD 0) (supervisorSp_withNzvc u neg _ _ _)).trans (isEven_eq_true he)) (by decide)
    refine ⟨(chkTraps u neg).m.sr, ?_, ?_⟩
    · rw [hi, ht, ← hdr, ← hpc]
      rfl
    · change Ccr ..
      rw [← hsr]
      exact ccr_withNzvc_anyZvc ..
  refine ⟨fun h0 hb => ⟨(chkPasses u).m.sr, ?_, ?_⟩, fun he => ⟨fun h0 => htraps true he ?_, fun h0 hb => htraps false he ?_⟩⟩
  · rw [hx, if_neg (Int.not_lt.2 h0), if_neg (Int.not_lt.2 hb), ← hdr]
    rfl
  · change Ccr ..
    rw [← hsr]
    obtain ⟨hx, -, -, -, -, hk⟩ := ccr_withNzvc u.m.sr (Config.freeBit (u.draws + 1 + 1 + 1)) (Config.freeBit u.draws)
      (Config.freeBit (u.draws + 1)) (Config.freeBit (u.draws + 1 + 1))
    exact ⟨hx, rfl, rfl, rfl, rfl, hk⟩
  · rw [hx, if_pos h0]
  · rw [hx, if_neg (Int.not_lt.2 h0), if_pos hb]

/-- Settles O33. -/
theorem m68kTrapping : Obligations.M68kTrapping := ⟨m68kTraps, m68kChk⟩

end

end Sys2Proof.Machine
end

section
/-! PROOFS. The 68000's addresses, transfers and privileged instructions (45 R915, R916; 47_m68k_control_system.md). -/

namespace Sys2Proof.Machine

open Sys2Proof.Claims

/-! ### Stacks -/

theorem isEven_sub (a : Long) (k : Nat) (h : isEven a = true) : isEven (a - BitVec.ofNat 32 (2 * k)) = true := by
  rw [isEven, sub_even a k (isEven_eq_true h)]
  rfl

theorem isEven_add (a : Long) (k : Nat) (h : isEven a = true) : isEven (a + BitVec.ofNat 32 (2 * k)) = true := by
  rw [isEven, add_even a k (isEven_eq_true h)]
  rfl

/-- A long pushed on an even stack (47 R1101). -/
theorem push_long {s : State} (v : Long) (h : isEven s.m.a[7] = true) : push s .l v = .ok (withPushed s v) :=
  push_ok s .l v (reachable_of_isEven .l (isEven_sub _ 2 h))

theorem pop_even {s : State} {sp : Long} (sz : Size) (hs : s.m.a[7] = sp) (h : isEven sp = true) :
    pop s sz = .ok ((Loc.mem sp).value s sz, withA7 s (sp + BitVec.ofNat 32 sz.bytes)) := by
  subst hs
  exact pop_ok s sz (reachable_of_isEven sz h)

theorem withA7_a7 (s : State) (v : Long) : (withA7 s v).m.a[7] = v := getAn_setAn_same s 7 v

theorem withA7_withA7 (s : State) (v w : Long) : withA7 (withA7 s v) w = withA7 s w := by
  simp only [withA7, Vector.set_set]

/-! ### Addresses -/

theorem locOf_of_isCtrl {ea : Ea} (s : State) (sz : Size) (pw : Long) (h : ea.isCtrl = true) :
    locOf s sz pw ea = .mem (eaAddr s pw ea) := by
  cases ea with
  | dreg _ | areg _ | imm _ | postInc _ | preDec _ => cases h
  | _ => rfl

/-- The address that a control mode names. -/
theorem eaAddr_of_locOf {s : State} {sz : Size} {pw a : Long} {ea : Ea} (h : ea.isCtrl = true)
    (hl : locOf s sz pw ea = .mem a) : eaAddr s pw ea = a :=
  Loc.mem.inj ((locOf_of_isCtrl s sz pw h).symm.trans hl)

/-- Settles O20. -/
theorem m68kAddresses : Obligations.M68kAddresses := by
  intro s ea n a hc hl
  have ha : eaAddr s (firstExt s) ea = a := eaAddr_of_locOf hc hl
  refine ⟨?_, ?_, fun he => ⟨?_, ?_⟩⟩
  · change execLea ea n s = _
    rw [execLea, ha]
    rfl
  · change execJmp ea s = _
    rw [execJmp, ha]
    rfl
  · change execPea ea s = _
    rw [execPea, ha, push_long a he]
    rfl
  · change execJsr ea s = _
    rw [execJsr, ha, push_long s.m.pc he]
    rfl

/-! ### Branches -/

theorem branchTarget_eq (s : State) (d : BrDisp) : branchTarget s d = s.m.pc0 + 2 + dispOf d := by
  cases d <;> rfl

theorem extractLsb'_zeroExtend (w : Word) : (w.zeroExtend 32).extractLsb' 0 16 = w := by
  apply BitVec.eq_of_toNat_eq
  rw [BitVec.extractLsb'_toNat, BitVec.toNat_setWidth, Nat.shiftRight_zero]
  omega

theorem m68kBranches : Claims.M68kBranches := by
  intro s k n d w target c counted
  have hc : setDsz s n .w (c.zeroExtend 32) = counted := by
    rw [setDsz, insertLow_word, extractLsb'_zeroExtend]
    rfl
  refine ⟨?_, ?_, fun he => ?_, ?_⟩
  · change execBra d s = _
    rw [execBra, branchTarget_eq]
    rfl
  · change execBcc k d s = _
    rw [execBcc, branchTarget_eq, cond16_eq_mcond]
    rfl
  · change execBsr d s = _
    rw [execBsr, branchTarget_eq, push_long _ he]
    rfl
  · change execDbcc k n w s = _
    rw [execDbcc, cond16_eq_mcond]
    dsimp only
    rw [← hc]
    rfl

/-! ### Returns and stack frames -/

theorem rtr_next {s : State} (he : isEven s.m.a[7] = true) :
    let c := (Loc.mem s.m.a[7]).value s .w
    ∃ sr, exec .rtr s =
        .next (withSr (withPc (withA7 s (s.m.a[7] + 6)) ((Loc.mem (s.m.a[7] + 2)).value s .l)) sr) ∧
      Ccr sr s.m.sr (c.getLsbD 4) (c.getLsbD 3) (c.getLsbD 2) (c.getLsbD 1) (c.getLsbD 0) := by
  intro c
  have hc (k : Nat) (hk : k < 5) : (c.extractLsb' 0 8 : Byte).getLsbD k = c.getLsbD k := by
    rw [BitVec.getLsbD_extractLsb', Nat.zero_add, decide_eq_true (show k < 8 by omega), Bool.true_and]
  obtain ⟨sr, hw, h4, h3, h2, h1, h0, hk⟩ := writeCCR_codes (s := s) (u := withA7 s (s.m.a[7] + 2)) (c.extractLsb' 0 8) rfl
  refine ⟨sr, ?_, h4.trans (hc 4 (by decide)), h3.trans (hc 3 (by decide)), h2.trans (hc 2 (by decide)),
    h1.trans (hc 1 (by decide)), h0.trans (hc 0 (by decide)), hk⟩
  have hp : pop (withSr (withA7 s (s.m.a[7] + 2)) sr) .l = .ok ((Loc.mem (s.m.a[7] + 2)).value s .l,
      withA7 (withSr (withA7 s (s.m.a[7] + 2)) sr) (s.m.a[7] + 2 + 4)) :=
    pop_even .l (withA7_a7 ..) (isEven_add _ 1 he)
  have ha : withA7 (withSr (withA7 s (s.m.a[7] + 2)) sr) (s.m.a[7] + 2 + 4) = withSr (withA7 s (s.m.a[7] + 6)) sr := by
    rw [BitVec.add_assoc]
    exact congrArg (withSr · sr) (withA7_withA7 ..)
  change execRtr s = _
  rw [execRtr, pop_even .w rfl he]
  change finish (pop (writeCCR (withA7 s (s.m.a[7] + 2)) (c.extractLsb' 0 8)) .l >>= _) = _
  rw [hw, hp, ha]
  rfl

/-- LINK writes A7, An, and A7 again (47 R1119). -/
theorem set_seven_set_set_seven (a : Vector Long 8) (n : Fin 8) (x y : Long) :
    ((a.set 7 x).set n x).set 7 y = (a.set n x).set 7 y := by
  refine Vector.ext fun i hi => ?_
  simp only [Vector.getElem_set]
  by_cases h : 7 = i
  · rw [if_pos h, if_pos h]
  · rw [if_neg h, if_neg h, if_neg h]

theorem link_next {s : State} (n : Fin 8) (d : Word) (he : isEven s.m.a[7] = true) :
    let sp := s.m.a[7]
    exec (.link n d) s = .next { s with
      bus := writeMem s.bus (sp - 4) .l (if n.val = 7 then sp - 4 else s.m.a[n])
      m := { s.m with a := (s.m.a.set n (sp - 4)).set 7 (sp - 4 + d.signExtend 32) } } := by
  intro sp
  have h7 : getAn (withA7 s (sp - 4)) 7 = sp - 4 := withA7_a7 ..
  have hn : getAn (withA7 s (sp - 4)) n = if n.val = 7 then sp - 4 else s.m.a[n] := by
    by_cases h : n.val = 7
    · rw [if_pos h, show n = 7 from Fin.ext h, h7]
    · rw [if_neg h]
      exact (getAn_setAn s 7 n _).trans (if_neg fun h' => h (congrArg Fin.val h'.symm))
  have h7' (t : State) (h : getAn t 7 = sp - 4) : getAn (setAn t n (sp - 4)) 7 = sp - 4 := by
    rw [getAn_setAn, h, ite_self]
  rw [← set_seven_set_set_seven, ← hn]
  change execLink n d s = _
  rw [execLink]
  change finish (memWrite (withA7 s (sp - 4)) (getAn (withA7 s (sp - 4)) 7) .l (getAn (withA7 s (sp - 4)) n) >>= fun t =>
    .ok (setAn (setAn t n (getAn t 7)) 7 (getAn (setAn t n (getAn t 7)) 7 + d.signExtend 32))) = _
  have hr : (Loc.mem (sp - 4)).reachable .l = true := reachable_of_isEven .l (isEven_sub _ 2 he)
  rw [h7, memWrite_ok _ _ _ _ hr]
  change Host.Outcome.next (setAn (setAn _ n (getAn _ 7)) 7 (getAn (setAn _ n (getAn _ 7)) 7 + _)) = _
  rw [getAn_setBus, h7, h7' _ (by rw [getAn_setBus, h7])]
  rfl

theorem m68kReturns : Claims.M68kReturns := by
  intro s n d sp long
  refine ⟨fun he => ⟨?_, rtr_next he, link_next n d he⟩, fun he => ?_⟩
  · change execRts s = _
    rw [execRts, pop_even .l rfl he]
    rfl
  · change execUnlk n s = _
    have hp : pop (withA7 s s.m.a[n]) .l = .ok (long s.m.a[n], withA7 s (s.m.a[n] + 4)) :=
      (pop_even .l (withA7_a7 ..) he).trans (by rw [withA7_withA7]; rfl)
    rw [execUnlk]
    change finish (pop (withA7 s s.m.a[n]) .l >>= _) = _
    rw [hp]
    rfl

/-- Settles O32. -/
theorem m68kTransfers : Obligations.M68kTransfers := ⟨m68kBranches, m68kReturns⟩

/-! ### Privileged instructions -/

theorem requireSupervisor_of_supervisor {s : State} {act : Except Fault State} (h : s.m.sr.getLsbD 13 = true) :
    requireSupervisor s act = act := if_pos h

theorem requireSupervisor_of_user {s : State} {act : Except Fault State} (h : s.m.sr.getLsbD 13 = false) :
    requireSupervisor s act = takeException s 0x20 s.m.pc0 := if_neg (by rw [supervisor, h]; decide)

theorem writeSR_of_supervisor {s : State} (v : Word) (h : s.m.sr.getLsbD 13 = true) : writeSR s v = srWritten s v := by
  cases hv : (v &&& srMask).getLsbD 13 with
  | true =>
    rw [writeSR_of_same (hv.trans h.symm)]
    exact (if_pos hv).symm
  | false =>
    rw [writeSR_of_change (by rw [hv, supervisor, h]; decide)]
    exact (if_neg (ne_true_of_eq_false hv)).symm

/-- The nine privileged instructions (47 R1100). -/
def privilegedForms (imm : Word) (ea : Ea) (n : Fin 8) : List Instr :=
  [.andiSr imm, .oriSr imm, .eoriSr imm, .moveToSr ea, .moveAnUsp n, .moveUspAn n, .rte, .stop imm, .reset]

theorem exec_privileged_of_user {s : State} {imm : Word} {ea : Ea} {n : Fin 8} (hu : s.m.sr.getLsbD 13 = false) :
    ∀ i ∈ privilegedForms imm ea n, exec i s = finish (takeException s 0x20 s.m.pc0) := by
  intro i hi
  simp only [privilegedForms, List.mem_cons, List.not_mem_nil, or_false] at hi
  rcases hi with rfl | rfl | rfl | rfl | rfl | rfl | rfl | rfl | rfl <;>
    exact congrArg finish (requireSupervisor_of_user hu)

/-- Settles O36. -/
theorem m68kPrivilege : Obligations.M68kPrivilege := by
  intro s imm ea n hu he i hi
  refine finish_takeException ?_ rfl (exec_privileged_of_user hu i hi)
  rw [supervisorSp, hu]
  exact he

/-- Settles O35. -/
theorem m68kSupervisor : Obligations.M68kSupervisor := by
  intro s imm ea n hs sp
  have hw {act : State} {i : Instr} (hi : exec i s = finish (requireSupervisor s (.ok act))) : exec i s = .next act := by
    rw [hi, requireSupervisor_of_supervisor hs]
    rfl
  refine ⟨⟨?_, ?_, ?_⟩, fun hr => ?_, ?_, fun he => ?_, hw rfl, hw rfl, hw rfl⟩
  · rw [← writeSR_of_supervisor _ hs]
    exact hw rfl
  · rw [← writeSR_of_supervisor _ hs]
    exact hw rfl
  · rw [← writeSR_of_supervisor _ hs]
    exact hw rfl
  · change execMoveToSr ea s = _
    rw [execMoveToSr, requireSupervisor_of_supervisor hs, firstExt, loadEa_reachable hr,
      ← writeSR_of_supervisor _ ((congrArg (·.getLsbD 13) (sideOf_sr ..)).trans hs)]
    rfl
  · rw [← writeSR_of_supervisor _ hs]
    exact hw rfl
  · have hp : pop (withA7 s (sp + 2)) .l =
        .ok ((Loc.mem (sp + 2)).value s .l, withA7 (withA7 s (sp + 2)) (sp + 2 + 4)) :=
      pop_even .l (withA7_a7 ..) (isEven_add _ 1 he)
    change execRte s = _
    rw [execRte, requireSupervisor_of_supervisor hs, returnFromException, pop_even .w rfl he]
    change finish (pop (withA7 s (sp + 2)) .l >>= _) = _
    rw [hp, withA7_withA7, BitVec.add_assoc, ← writeSR_of_supervisor (s := withA7 s (sp + 6)) _ hs]
    rfl

end Sys2Proof.Machine
end

section
/-! PROOFS. Where a 68000 instruction stops with MisalignedAccess: an odd operand, an odd stack, an odd frame
(20_memory.md R163; 60 R1260). -/

namespace Sys2Proof.Machine

open Sys2Proof.Claims

/-! ### Odd operands -/

section
variable {s : State} {i : Instr} {sz : Size} {pw : Long} {ea : Ea}

theorem stopsEa_of_load {k : Long × State → Except Fault State} (hi : exec i s = finish (loadEa s sz pw ea >>= k)) :
    StopsEa s i sz pw ea := by
  intro a hl hr
  rw [StopsAt, hi, loadEa_error _ _ _ _ a hl hr]
  rfl

theorem stopsEa_of_modify {f : Word → Long → Long × Word} (hi : exec i s = finish (modifyEa s sz pw ea f)) :
    StopsEa s i sz pw ea := by
  intro a hl hr
  rw [StopsAt, hi, modifyEa_error _ _ _ _ _ a hl hr]
  rfl

theorem stopsEa_of_store {v : Long} {k : State → Except Fault State} (hi : exec i s = finish (storeEa s sz pw ea v >>= k)) :
    StopsEa s i sz pw ea := by
  intro a hl hr
  rw [StopsAt, hi, storeEa_error _ _ _ _ _ a hl hr]
  rfl

/-- Two operands: where the first can be read, the rest of the meaning, `k`, stops at the second. -/
theorem stopsBoth_of_load {k : Long × State → Except Fault State} {ea' : Ea}
    (hi : exec i s = finish (loadEa s sz pw ea >>= k))
    (hk : ∀ v a, locOf (sideOf s sz pw ea) sz pw ea' = .mem a → (Loc.mem a).reachable sz = false →
      k (v, sideOf s sz pw ea) = .error (.misalignedAccess (busAddr a))) : StopsBoth s i sz pw ea ea' := by
  refine ⟨stopsEa_of_load hi, fun hr a hl hu => ?_⟩
  rw [StopsAt, hi, loadEa_reachable hr]
  exact congrArg finish (hk _ a hl hu)

theorem moveEa_stopsBoth {dst : Ea} (hi : exec i s = finish (moveEa sz ea dst s)) :
    StopsBoth s i sz (s.m.pc0 + 2) ea dst := by
  refine stopsBoth_of_load hi fun v a hl hu => ?_
  have hp : firstExt (sideOf s sz (s.m.pc0 + 2) ea) = s.m.pc0 + 2 := congrArg (· + 2) (resolve_pc0 ..)
  change (storeEa _ sz (firstExt _) dst v >>= _) = _
  rw [hp, storeEa_error _ _ _ _ _ a hl hu]
  rfl

theorem arithX_stopsBoth {op : Long → Long → Bool → Size → Alu} {y x : Fin 8}
    (hi : exec i s = finish (arithX op sz .mem y x s)) : StopsBoth s i sz 0 (.preDec y) (.preDec x) :=
  stopsBoth_of_load hi fun _ a hl hu => modifyEa_error _ _ _ _ _ a hl hu

theorem arithQuick_stopsEa {op : Long → Long → Bool → Size → Alu} {q : Fin 8}
    (hi : exec i s = finish (arithQuick op q sz ea s)) : StopsEa s i sz (s.m.pc0 + 2) ea := by
  intro a hl hr
  have hn : ea.isAreg = false := by
    cases ea with
    | areg n => cases hl
    | _ => rfl
  rw [arithQuick_of_not_areg hn] at hi
  exact stopsEa_of_modify hi a hl hr

end

theorem misalignedOperands : Claims.MisalignedOperands := by
  intro s sz ea dst n x imm q pw
  refine ⟨⟨moveEa_stopsBoth rfl, moveEa_stopsBoth rfl⟩, ⟨stopsEa_of_load rfl, stopsEa_of_load rfl⟩, ?_, ?_, fun hs => ?_, ?_,
    ?_⟩
  · simp only [List.forall_mem_cons, List.not_mem_nil, false_implies, implies_true, and_true]
    exact ⟨stopsEa_of_load rfl, stopsEa_of_modify rfl, stopsEa_of_load rfl, stopsEa_of_modify rfl, arithQuick_stopsEa rfl,
      stopsEa_of_load rfl, stopsEa_of_modify rfl, stopsEa_of_load rfl, stopsEa_of_modify rfl, arithQuick_stopsEa rfl,
      stopsEa_of_modify rfl, stopsEa_of_modify rfl, stopsEa_of_load rfl, stopsEa_of_load rfl, stopsEa_of_load rfl,
      stopsEa_of_load rfl, stopsEa_of_modify rfl, stopsEa_of_modify rfl, stopsEa_of_load rfl, stopsEa_of_modify rfl,
      stopsEa_of_modify rfl, stopsEa_of_modify rfl, stopsEa_of_modify rfl, stopsEa_of_modify rfl, stopsEa_of_store rfl,
      stopsEa_of_load rfl⟩
  · have hstore : StopsEa s (.moveFromSr ea) .w pw ea := fun a hl hr => congrArg finish (storeEa_error _ _ _ _ _ a hl hr)
    simp only [List.forall_mem_cons, List.not_mem_nil, false_implies, implies_true, and_true]
    exact ⟨stopsEa_of_load rfl, stopsEa_of_load rfl, stopsEa_of_load rfl, stopsEa_of_load rfl, stopsEa_of_load rfl,
      stopsEa_of_load rfl, hstore, stopsEa_of_modify rfl, stopsEa_of_modify rfl, stopsEa_of_modify rfl, stopsEa_of_modify rfl,
      stopsEa_of_modify rfl, stopsEa_of_modify rfl, stopsEa_of_modify rfl, stopsEa_of_modify rfl⟩
  · exact stopsEa_of_load (congrArg finish (requireSupervisor_of_supervisor hs))
  · simp only [List.forall_mem_cons, List.not_mem_nil, false_implies, implies_true, and_true]
    exact ⟨arithX_stopsBoth rfl, arithX_stopsBoth rfl⟩
  · refine stopsBoth_of_load rfl fun v a hl hu => ?_
    change (loadEa _ sz 0 (.postInc x) >>= _) = _
    rw [loadEa_error _ _ _ _ a hl hu]
    rfl

/-! ### Odd stacks and frames -/

section
variable {s : State} {i : Instr} {sz : Size}

theorem isEven_sub_odd {a : Long} (k : Nat) (h : isEven a = false) : isEven (a - BitVec.ofNat 32 (2 * k)) = false := by
  rw [isEven, sub_odd a k (isEven_eq_false h)]
  rfl

/-- A location that cannot be reached is a word or long at an odd address (20_memory.md R163). -/
theorem odd_of_unreachable {a : Long} (h : (Loc.mem a).reachable sz = false) : sz ≠ .b ∧ isEven a = false := by
  simpa [Loc.reachable, isEven] using h

/-- The address one element below an odd one is odd. -/
theorem unreachable_sub {a : Long} (h : (Loc.mem a).reachable sz = false) :
    (Loc.mem (a - BitVec.ofNat 32 sz.bytes)).reachable sz = false := by
  obtain ⟨hsz, ho⟩ := odd_of_unreachable h
  refine unreachable_of_odd ?_ hsz
  cases sz with
  | b => exact absurd rfl hsz
  | w => exact isEven_sub_odd 1 ho
  | l => exact isEven_sub_odd 2 ho

/-- A mask that is not 0 lists a register. -/
theorem maskBits_eq_cons {mask : Word} (h : mask ≠ 0) : ∃ k ks, maskBits mask = k :: ks := by
  cases hm : maskBits mask with
  | cons k ks => exact ⟨k, ks, rfl⟩
  | nil =>
    refine absurd (BitVec.eq_of_getLsbD_eq fun j hj => ?_) h
    have hj' := List.filter_eq_nil_iff.1 hm j (List.mem_range.2 hj)
    simpa using hj'

theorem push_odd {sp : Long} (v : Long) (hs : s.m.a[7] = sp) (ho : isEven sp = false) :
    push s .l v = .error (.misalignedAccess (busAddr (sp - 4))) := by
  subst hs
  exact push_error s .l v (unreachable_of_odd (isEven_sub_odd 2 ho) (by decide))

theorem stops_of_push {sp v : Long} {k : State → Except Fault State} (hs : s.m.a[7] = sp) (ho : isEven sp = false)
    (hi : exec i s = finish (push s .l v >>= k)) : StopsAt s i (sp - 4) := by
  rw [StopsAt, hi, push_odd v hs ho]
  rfl

theorem pop_odd {sp : Long} (hs : s.m.a[7] = sp) (ho : isEven sp = false) (hsz : sz ≠ .b) :
    pop s sz = .error (.misalignedAccess (busAddr sp)) := by
  subst hs
  exact pop_error s sz (unreachable_of_odd ho hsz)

theorem stops_of_pop {sp : Long} {k : Long × State → Except Fault State} (hs : s.m.a[7] = sp) (ho : isEven sp = false)
    (hsz : sz ≠ .b) (hi : exec i s = finish (pop s sz >>= k)) : StopsAt s i sp := by
  rw [StopsAt, hi, pop_odd hs ho hsz]
  rfl

theorem stops_of_exception {off : Nat} {pc : Long} (ho : isEven (supervisorSp s) = false)
    (hi : exec i s = finish (takeException s off pc)) : StopsAt s i (supervisorSp s - 4) := by
  rw [StopsAt, hi, takeException_error s off pc (isEven_eq_false ho)]
  rfl

/-! The loops of MOVEM stop at their first access. -/

theorem storeDown_stops {old : State} {k : Nat} {ks : List Nat} {a : Long} (h : (Loc.mem a).reachable sz = false) :
    storeDown sz old (k :: ks) a s = .error (.misalignedAccess (busAddr (a - BitVec.ofNat 32 sz.bytes))) := by
  rw [storeDown, memWrite_error _ _ _ _ (unreachable_sub h)]
  rfl

theorem storeUp_stops {old : State} {k : Nat} {ks : List Nat} {a : Long} (h : (Loc.mem a).reachable sz = false) :
    storeUp sz old (k :: ks) a s = .error (.misalignedAccess (busAddr a)) := by
  rw [storeUp, memWrite_error _ _ _ _ h]
  rfl

theorem loadUp_stops {k : Nat} {ks : List Nat} {a : Long} (h : (Loc.mem a).reachable sz = false) :
    loadUp sz (k :: ks) a s = .error (.misalignedAccess (busAddr a)) := by
  rw [loadUp, memRead_error _ _ _ h]
  rfl

end

/-- MOVEM to a control address stores upward (45 R913). -/
theorem exec_movemStore_ctrl {s : State} {sz : Size} {mask : Word} {ea : Ea} (h : ea.isCtrl = true) :
    exec (.movemStore sz mask ea) s = finish (storeUp sz s (maskBits mask) (eaAddr s (s.m.pc0 + 4) ea) s) := by
  cases ea with
  | preDec n => cases h
  | _ => rfl

theorem eaAddr_of_locOf_pi {s : State} {sz : Size} {pw a : Long} {ea : Ea} (h : ea.isCtrlPi = true)
    (hl : locOf s sz pw ea = .mem a) : eaAddr s pw ea = a := by
  cases ea with
  | postInc n => exact Loc.mem.inj hl
  | _ => exact eaAddr_of_locOf h hl

theorem movem_stops (s : State) (sz : Size) {mask : Word} (ea : Ea) (n : Fin 8) (hm : mask ≠ 0) :
    ((Loc.mem s.m.a[n]).reachable sz = false →
      StopsAt s (.movemStore sz mask (.preDec n)) (s.m.a[n] - BitVec.ofNat 32 sz.bytes)) ∧
    (ea.isCtrl = true → StopsEa s (.movemStore sz mask ea) sz (s.m.pc0 + 4) ea) ∧
    (ea.isCtrlPi = true → StopsEa s (.movemLoad sz mask ea) sz (s.m.pc0 + 4) ea) := by
  obtain ⟨k, ks, hk⟩ := maskBits_eq_cons hm
  refine ⟨fun hu => ?_, fun hc a hl hu => ?_, fun hc a hl hu => ?_⟩
  · change execMovemStore sz mask (.preDec n) s = _
    rw [execMovemStore, maskDown, hk]
    change finish (storeDown sz s ((15 - k) :: _) s.m.a[n] s >>= _) = _
    rw [storeDown_stops hu]
    rfl
  · rw [StopsAt, exec_movemStore_ctrl hc, eaAddr_of_locOf hc hl, hk, storeUp_stops hu]
    rfl
  · change execMovemLoad sz mask ea s = _
    rw [execMovemLoad, secondExt, eaAddr_of_locOf_pi hc hl, hk, loadUp_stops hu]
    rfl

theorem takeException_flags_odd {u : State} {pc : Long} {off : Nat} (neg z v c : Bool) (k : Nat)
    (ho : isEven (supervisorSp u) = false) :
    takeException { setSr u (withNzvc u.m.sr neg z v c) with draws := k } off pc =
      .error (.misalignedAccess (busAddr (supervisorSp u - 4))) := by
  have hs : supervisorSp { setSr u (withNzvc u.m.sr neg z v c) with draws := k } = supervisorSp u :=
    supervisorSp_withNzvc u neg z v c
  rw [takeException_error _ off pc (isEven_eq_false (hs ▸ ho)), hs]

/-- A division by zero on an odd supervisor stack. -/
theorem divideByZero_odd {u : State} (ho : isEven (supervisorSp u) = false) :
    divideByZero u = .error (.misalignedAccess (busAddr (supervisorSp u - 4))) := takeException_flags_odd _ _ _ _ _ ho

theorem chkTraps_odd {u : State} {pc : Long} (neg : Bool) (ho : isEven (supervisorSp u) = false) :
    takeException (chkTraps u neg) 0x18 pc = .error (.misalignedAccess (busAddr (supervisorSp u - 4))) :=
  takeException_flags_odd _ _ _ _ _ ho

/-- A trap of a division by zero or of CHK on an odd supervisor stack. -/
theorem divide_chk_stop {s : State} (ea : Ea) (n : Fin 8) (hr : (locOf s .w (s.m.pc0 + 2) ea).reachable .w = true)
    (ho : isEven (supervisorSp (sideOf s .w (s.m.pc0 + 2) ea)) = false) :
    let u := sideOf s .w (s.m.pc0 + 2) ea
    let c : Word := s.m.d[n].extractLsb' 0 16
    (divisor s ea = 0 → StopsAt s (.divu ea n) (supervisorSp u - 4) ∧ StopsAt s (.divs ea n) (supervisorSp u - 4)) ∧
    (c.toInt < 0 ∨ (divisor s ea).toInt < c.toInt → StopsAt s (.chk ea n) (supervisorSp u - 4)) := by
  intro u c
  refine ⟨fun h0 => ⟨?_, ?_⟩, fun hb => ?_⟩
  · rw [StopsAt, execDivu_eq hr, h0]
    exact congrArg finish (divideByZero_odd ho)
  · rw [StopsAt, execDivs_eq hr, h0]
    exact congrArg finish (divideByZero_odd ho)
  · rw [StopsAt, execChk_eq hr]
    by_cases h0 : c.toInt < 0
    · exact (congrArg finish (if_pos h0)).trans (congrArg finish (chkTraps_odd true ho))
    · exact (congrArg finish ((if_neg h0).trans (if_pos (hb.resolve_left h0)))).trans
        (congrArg finish (chkTraps_odd false ho))

theorem misalignedStacks : Claims.MisalignedStacks := by
  intro s sz mask ea n d w imm v k sp frame
  refine ⟨movem_stops s sz ea n, fun ho => ⟨?_, ?_, ?_, fun hs => ?_⟩, fun ho => ?_, fun ho => ⟨fun hv => ?_, fun hv => ?_,
    ?_, ?_, ?_, fun hu i hi => ?_⟩, divide_chk_stop ea n⟩
  · simp only [List.forall_mem_cons, List.not_mem_nil, false_implies, implies_true, and_true]
    exact ⟨congrArg finish (push_odd _ rfl ho), stops_of_push rfl ho rfl, stops_of_push rfl ho rfl,
      stops_of_push rfl ho rfl⟩
  · exact stops_of_pop rfl ho (by decide) rfl
  · exact stops_of_pop rfl ho (by decide) rfl
  · exact stops_of_pop rfl ho (by decide) (congrArg finish (requireSupervisor_of_supervisor hs))
  · change execUnlk n s = _
    rw [execUnlk]
    change finish (pop (withA7 s s.m.a[n]) .l >>= _) = _
    rw [pop_odd (withA7_a7 ..) ho (by decide)]
    rfl
  · exact stops_of_exception ho (execTrap_eq hv)
  · exact stops_of_exception ho (if_pos hv)
  · exact stops_of_exception ho rfl
  · exact stops_of_exception ho rfl
  · exact stops_of_exception ho rfl
  · exact stops_of_exception ho (exec_privileged_of_user hu i hi)

/-- Settles O37. -/
theorem misalignedAccesses : Obligations.Misaligned := ⟨misalignedOperands, misalignedStacks⟩

end Sys2Proof.Machine
end

section
/-! PROOFS. The 68000's lists of registers, MOVEM and MOVEP (45 R913, R914): the loops of the model store and load as the
statement lists. -/

namespace Sys2Proof.Machine

open Sys2Proof.Claims

/-! ### MOVEP -/

theorem movepStore_eq (vs : List Byte) (a : Long) (s : State) :
    movepStore vs a s = { s with bus := storeAlternate s.bus vs a } := by
  induction vs generalizing a s with
  | nil => rfl
  | cons v vs ih => exact ih (a + 2) (s.setBus (Bus.writeM s.bus (busAddr a) v))

theorem m68kMovep : Claims.M68kMovep := by
  intro s x y d a v b
  have hb (k : Long) : movepByte s (a + k) = b k := rfl
  have h0 : movepByte s a = b 0 := congrArg (movepByte s) (BitVec.add_zero a).symm
  refine ⟨?_, ?_, ?_, ?_⟩
  · rw [← h0, ← hb]
    change Host.Outcome.next (setDsz s x .w ((movepByte s a ++ movepByte s (a + 2)).zeroExtend 32)) = _
    rw [setDsz, insertLow_word, extractLsb'_zeroExtend]
    rfl
  · rw [← h0, ← hb, ← hb, ← hb]
    rfl
  · exact congrArg Host.Outcome.next (movepStore_eq _ a s)
  · exact congrArg Host.Outcome.next (movepStore_eq _ a s)

/-! ### The lists of MOVEM -/

section
variable {s old : State} {sz : Size}

theorem getReg_eq_numbered (s : State) {k : Nat} (hk : k < 16) : getReg s k = numbered s k := by
  rw [getReg, numbered]
  by_cases h : k < 8
  · have hl : k < s.m.d.toList.length := by simpa using h
    rw [if_pos h, if_pos h, getElem!_pos s.m.d.toList k hl, Vector.getElem_toList]
    simp [getD, Nat.mod_eq_of_lt h]
  · have hl : k - 8 < s.m.a.toList.length := by simp; omega
    rw [if_neg h, if_neg h, getElem!_pos s.m.a.toList (k - 8) hl, Vector.getElem_toList]
    simp [getAn, show k % 8 = k - 8 by omega]

/-- The next element of a list at an address that can be reached can be reached. -/
theorem reachable_add {a : Long} (h : (Loc.mem a).reachable sz = true) :
    (Loc.mem (a + BitVec.ofNat 32 sz.bytes)).reachable sz = true := by
  cases sz with
  | b => rfl
  | w => exact reachable_of_isEven .w (isEven_add a 1 h)
  | l => exact reachable_of_isEven .l (isEven_add a 2 h)

theorem reachable_sub {a : Long} (h : (Loc.mem a).reachable sz = true) :
    (Loc.mem (a - BitVec.ofNat 32 sz.bytes)).reachable sz = true := by
  cases sz with
  | b => rfl
  | w => exact reachable_of_isEven .w (isEven_sub a 1 h)
  | l => exact reachable_of_isEven .l (isEven_sub a 2 h)

theorem storeUp_eq (ks : List Nat) (a : Long) (s : State) (h : (Loc.mem a).reachable sz = true) :
    storeUp sz old ks a s = .ok { s with
      bus := storeAll s.bus sz (BitVec.ofNat 32 sz.bytes) (ks.map (getReg old)) a } := by
  induction ks generalizing a s with
  | nil => rfl
  | cons k ks ih =>
    rw [storeUp, memWrite_ok _ _ _ _ h, writeMem_cut]
    exact ih _ _ (reachable_add h)

theorem storeDown_eq (ks : List Nat) (a : Long) (s : State) (h : (Loc.mem a).reachable sz = true) :
    storeDown sz old ks a s = .ok (a - BitVec.ofNat 32 (sz.bytes * ks.length), { s with
      bus := storeAll s.bus sz (-BitVec.ofNat 32 sz.bytes) (ks.map (getReg old)) (a - BitVec.ofNat 32 sz.bytes) }) := by
  induction ks generalizing a s with
  | nil =>
    rw [List.length_nil, Nat.mul_zero]
    exact congrArg (fun x => Except.ok (x, s)) (BitVec.sub_zero a).symm
  | cons k ks ih =>
    have ha : a - BitVec.ofNat 32 sz.bytes - BitVec.ofNat 32 (sz.bytes * ks.length) =
        a - BitVec.ofNat 32 (sz.bytes * (ks.length + 1)) := by
      rw [BitVec.sub_sub, ← BitVec.ofNat_add, Nat.mul_add, Nat.mul_one, Nat.add_comm]
    rw [storeDown, memWrite_ok _ _ _ _ (reachable_sub h), writeMem_cut]
    refine (ih _ _ (reachable_sub h)).trans ?_
    rw [ha, BitVec.sub_eq_add_neg (a - BitVec.ofNat 32 sz.bytes)]
    rfl

/-- The registers of a mask, in the statement's words. -/
theorem map_getReg_listed (s : State) (mask : Word) : (maskBits mask).map (getReg s) = (listed mask).map fun k => numbered s k :=
  List.map_congr_left fun _ hk => getReg_eq_numbered s (List.mem_range.1 (List.mem_filter.1 hk).1)

theorem map_getReg_maskDown (s : State) (mask : Word) :
    (maskDown mask).map (getReg s) = (listed mask).map fun i => numbered s (15 - i) := by
  rw [maskDown, List.map_map]
  exact List.map_congr_left fun _ _ => getReg_eq_numbered s (Nat.lt_succ_of_le (Nat.sub_le ..))

/-! ### Loads -/

/-- The registers `ks` loaded from rising addresses. -/
def loadAll (sz : Size) (ks : List Nat) (a : Long) (s : State) : State :=
  match ks with
  | [] => s
  | k :: rest => loadAll sz rest (a + BitVec.ofNat 32 sz.bytes) (setReg s k (wide sz ((Loc.mem a).value s sz)))

theorem loadUp_eq (ks : List Nat) (a : Long) (s : State) (h : (Loc.mem a).reachable sz = true) :
    loadUp sz ks a s = .ok (a + BitVec.ofNat 32 (sz.bytes * ks.length), loadAll sz ks a s) := by
  induction ks generalizing a s with
  | nil =>
    rw [List.length_nil, Nat.mul_zero]
    exact congrArg (fun x => Except.ok (x, s)) (BitVec.add_zero a).symm
  | cons k ks ih =>
    have ha : a + BitVec.ofNat 32 sz.bytes + BitVec.ofNat 32 (sz.bytes * ks.length) =
        a + BitVec.ofNat 32 (sz.bytes * (ks.length + 1)) := by
      rw [BitVec.add_assoc, ← BitVec.ofNat_add, Nat.mul_add, Nat.mul_one, Nat.add_comm]
    rw [loadUp, memRead_ok _ _ _ h]
    refine (ih _ _ (reachable_add h)).trans ?_
    rw [ha, sextL_eq_wide]
    rfl

theorem setReg_registers (s : State) (k : Nat) (v : Long) :
    setReg s k v = { s with m := { s.m with d := (setReg s k v).m.d, a := (setReg s k v).m.a } } := by
  rw [setReg]
  split <;> rfl

/-- Loads write registers alone. -/
theorem loadAll_registers (ks : List Nat) (a : Long) (s : State) :
    loadAll sz ks a s = { s with m := { s.m with d := (loadAll sz ks a s).m.d, a := (loadAll sz ks a s).m.a } } := by
  induction ks generalizing a s with
  | nil => rfl
  | cons k ks ih =>
    rw [loadAll]
    refine (ih _ _).trans ?_
    rw [setReg_registers]

/-- A choice by one of two conditions that hold together. -/
theorem ite_of_iff {α : Type} {p q : Prop} [Decidable p] [Decidable q] (h : p ↔ q) (x y : α) :
    (if p then x else y) = if q then x else y :=
  ite_congr (propext h) (fun _ => rfl) fun _ => rfl

theorem getReg_setReg (s : State) {k j : Nat} (v : Long) (hk : k < 16) (hj : j < 16) :
    getReg (setReg s k v) j = if j = k then v else getReg s j := by
  have hx : Fin.ofNat 8 k = Fin.ofNat 8 j ↔ k % 8 = j % 8 := by simp [Fin.ext_iff]
  rw [setReg, getReg, getReg]
  by_cases hk8 : k < 8
  · by_cases hj8 : j < 8
    · rw [if_pos hk8, if_pos hj8, if_pos hj8, getD_setD]
      exact ite_of_iff (hx.trans (by omega)) _ _
    · rw [if_pos hk8, if_neg hj8, if_neg hj8, if_neg (by omega)]
      rfl
  · by_cases hj8 : j < 8
    · rw [if_neg hk8, if_pos hj8, if_pos hj8, getD_setAn, if_neg (by omega)]
    · rw [if_neg hk8, if_neg hj8, if_neg hj8, getAn_setAn]
      exact ite_of_iff (hx.trans (by omega)) _ _

/-- What a load of distinct registers leaves in each register. -/
theorem getReg_loadAll {ks : List Nat} (hn : ks.Nodup) (hk : ∀ k ∈ ks, k < 16) (a : Long) (s : State) {j : Nat} (hj : j < 16) :
    getReg (loadAll sz ks a s) j =
      if j ∈ ks then wide sz ((Loc.mem (a + BitVec.ofNat 32 (sz.bytes * ks.idxOf j))).value s sz) else getReg s j := by
  induction ks generalizing a s with
  | nil => rfl
  | cons k ks ih =>
    obtain ⟨hnk, hn⟩ := List.nodup_cons.1 hn
    have hv (a : Long) (v : Long) : (Loc.mem a).value (setReg s k v) sz = (Loc.mem a).value s sz := by
      rw [setReg_registers]
      rfl
    rw [loadAll, ih hn fun k' h => hk k' (List.mem_cons_of_mem _ h)]
    by_cases h : j = k
    · rw [if_neg (h ▸ hnk), getReg_setReg _ _ (hk k List.mem_cons_self) hj, if_pos h, if_pos (h ▸ List.mem_cons_self), h,
        List.idxOf_cons_self, Nat.mul_zero]
      exact congrArg (fun a => wide sz ((Loc.mem a).value s sz)) (BitVec.add_zero a).symm
    · have ha : a + BitVec.ofNat 32 sz.bytes + BitVec.ofNat 32 (sz.bytes * ks.idxOf j) =
          a + BitVec.ofNat 32 (sz.bytes * (ks.idxOf j + 1)) := by
        rw [BitVec.add_assoc, ← BitVec.ofNat_add, Nat.mul_add, Nat.mul_one, Nat.add_comm]
      rw [hv, ha, getReg_setReg _ _ (hk k List.mem_cons_self) hj, if_neg h, List.idxOf_cons,
        beq_false_of_ne (Ne.symm h), cond_false]
      exact ite_of_iff (by rw [List.mem_cons, or_iff_right h]) _ _

theorem mem_listed {mask : Word} {k : Nat} (hk : k < 16) : k ∈ listed mask ↔ mask.getLsbD k = true := by
  rw [listed, List.mem_filter, List.mem_range]
  exact and_iff_right hk

/-- The place of a register in a mask's list. -/
theorem idxOf_listed {mask : Word} {k : Nat} (hk : k < 16) (h : mask.getLsbD k = true) :
    (listed mask).idxOf k = listedBelow mask k := by
  obtain ⟨m, hm⟩ : ∃ m, 16 = k + (m + 1) := ⟨15 - k, by omega⟩
  have hnot : k ∉ (List.range k).filter fun i => mask.getLsbD i := fun hmem =>
    Nat.lt_irrefl k (List.mem_range.1 ((List.mem_filter.1 hmem).1))
  have hr : List.range 16 = List.range k ++ (List.range (m + 1)).map (k + ·) := (congrArg List.range hm).trans List.range_add
  rw [listed, hr, List.filter_append, List.idxOf_append, if_neg hnot, List.range_succ_eq_map, List.map_cons,
    Nat.add_zero, List.filter_cons_of_pos h, List.idxOf_cons_self, Nat.zero_add, listedBelow, List.countP_eq_length_filter]

theorem getReg_loadAll_listed (mask : Word) (a : Long) (s : State) {j : Nat} (hj : j < 16) :
    getReg (loadAll sz (listed mask) a s) j =
      if mask.getLsbD j then wide sz ((Loc.mem (a + BitVec.ofNat 32 (sz.bytes * listedBelow mask j))).value s sz)
      else getReg s j := by
  have hn : (listed mask).Nodup := List.nodup_range.filter _
  rw [getReg_loadAll hn (fun k hk => List.mem_range.1 (List.mem_filter.1 hk).1) a s hj]
  by_cases h : mask.getLsbD j = true
  · rw [if_pos ((mem_listed hj).2 h), if_pos h, idxOf_listed hj h]
  · rw [if_neg (h ∘ (mem_listed hj).1), if_neg h]

theorem getReg_data (s : State) (k : Fin 8) : getReg s k.val = s.m.d[k] := by
  rw [getReg, if_pos k.isLt, Fin.ofNat_val_eq_self, getD]

theorem getReg_address (s : State) (k : Fin 8) : getReg s (8 + k.val) = s.m.a[k] := by
  have hk : Fin.ofNat 8 (8 + k.val) = k := Fin.ext (by simp [Nat.mod_eq_of_lt k.isLt])
  rw [getReg, if_neg (by omega), hk, getAn]

/-- The state after a MOVEM from memory: An of (An)+ is the final address (45 R913). -/
def movemLoaded (sz : Size) (mask : Word) (ea : Ea) (a : Long) (s : State) : State :=
  match ea with
  | .postInc n => setAn (loadAll sz (listed mask) a s) n (a + BitVec.ofNat 32 (sz.bytes * (listed mask).length))
  | _ => loadAll sz (listed mask) a s

theorem exec_movemLoad {mask : Word} {ea : Ea} {a : Long} (hc : ea.isCtrlPi = true)
    (hl : locOf s sz (s.m.pc0 + 4) ea = .mem a) (hr : (Loc.mem a).reachable sz = true) :
    exec (.movemLoad sz mask ea) s = .next (movemLoaded sz mask ea a s) := by
  change execMovemLoad sz mask ea s = _
  rw [execMovemLoad, secondExt, eaAddr_of_locOf_pi hc hl, loadUp_eq _ _ _ hr]
  cases ea <;> rfl

theorem movemLoaded_registers (mask : Word) (ea : Ea) (a : Long) : movemLoaded sz mask ea a s =
    { s with m := { s.m with d := (movemLoaded sz mask ea a s).m.d, a := (movemLoaded sz mask ea a s).m.a } } := by
  have h := loadAll_registers (sz := sz) (listed mask) a s
  cases ea with
  | postInc n =>
    rw [movemLoaded, h]
    rfl
  | _ => exact h

theorem movemLoaded_d (mask : Word) (ea : Ea) (a : Long) (k : Fin 8) : (movemLoaded sz mask ea a s).m.d[k] =
    if mask.getLsbD k then wide sz ((Loc.mem (a + BitVec.ofNat 32 (sz.bytes * listedBelow mask k))).value s sz)
    else s.m.d[k] := by
  have h := getReg_loadAll_listed (sz := sz) mask a s (show k.val < 16 by omega)
  rw [getReg_data, getReg_data] at h
  rw [← h]
  cases ea <;> rfl

theorem movemLoaded_a (mask : Word) (ea : Ea) (a : Long) (k : Fin 8) : (movemLoaded sz mask ea a s).m.a[k] =
    if ea = .postInc k then a + BitVec.ofNat 32 (sz.bytes * (listed mask).length)
    else if mask.getLsbD (8 + k) then
      wide sz ((Loc.mem (a + BitVec.ofNat 32 (sz.bytes * listedBelow mask (8 + k)))).value s sz)
    else s.m.a[k] := by
  have h := getReg_loadAll_listed (sz := sz) mask a s (show 8 + k.val < 16 by omega)
  rw [getReg_address, getReg_address] at h
  rw [← h]
  cases ea with
  | postInc n => exact (getAn_setAn _ n k _).trans (ite_of_iff (by rw [Ea.postInc.injEq]) _ _)
  | _ => rfl

theorem m68kMovem : Claims.M68kMovem := by
  intro s sz mask n ea step pw
  refine ⟨fun hr => ?_, fun a hc hl hr => ?_, fun a hc hl hr => ?_⟩
  · change execMovemStore sz mask (.preDec n) s = _
    rw [execMovemStore, ← map_getReg_maskDown]
    change finish (storeDown sz s (maskDown mask) s.m.a[n] s >>= _) = _
    rw [storeDown_eq _ _ _ hr, maskDown, List.length_map]
    rfl
  · rw [exec_movemStore_ctrl hc, eaAddr_of_locOf hc hl, storeUp_eq _ _ _ hr, map_getReg_listed]
    rfl
  · exact ⟨_, exec_movemLoad hc hl hr, movemLoaded_registers mask ea a, movemLoaded_d mask ea a, movemLoaded_a mask ea a⟩

/-- Settles O19. -/
theorem m68kRegisterLists : Obligations.M68kRegisterLists := ⟨m68kMovem, m68kMovep⟩

end

end Sys2Proof.Machine
end
